-- ==== Sys2Proof/Word.lean ====
section
/-! DEFINITION. The two word types of FDIR: a frame and a frame byte (00_scope.md R11). -/

namespace Sys2Proof

/-- One field of a frame, 8 bits (R11, R71). -/
abbrev Byte := BitVec 8

/-- One 32-bit infrared frame, the unit FDIR consumes (R11, R70). -/
abbrev Frame := BitVec 32

end Sys2Proof
end

