-- ==== Sys2Proof/Config.lean ====
section
/-! DEFINITION. The implementation parameters of FDIR (00_scope.md R7 to R10, R14). The spec leaves three of them
open and asks a model to take them as an argument; they are plain data that State carries (log 1). -/

namespace Sys2Proof

/-- The two defined values of the parameter `LEVEL_FN` (R8, R150). -/
inductive LevelFn where
  /-- `LEVEL_TRUNC_SAT`, the spec's default. -/
  | truncSat
  /-- `LEVEL_NEAREST_SAT`. -/
  | nearestSat
  deriving DecidableEq, Repr

/-- The parameter record P of `Step(P, S, in)` (R14). `RESET_STEP` is fixed by the source and is the constant
`Config.resetStep` (R9; DEDUCED, safe, log 10). -/
structure Params where
  /-- `P_ADDR_CHECK`: whether FrameValidator checks the address pair (R7). -/
  addrCheck : Bool
  /-- `LEVEL_FN` (R8). -/
  levelFn : LevelFn
  /-- `RESET_IS_ON`: the value of IS_ON after reset (R10). -/
  resetIsOn : Bool
  deriving DecidableEq, Repr

/-- The spec's defaults: `P_ADDR_CHECK = true`, `LEVEL_TRUNC_SAT`, `RESET_IS_ON = false` (R7, R8, R10).
DESIGN CHOICE (the spec's own D6, D7, D10), unsafe, log 3. -/
def Params.default : Params :=
  { addrCheck := true, levelFn := .truncSat, resetIsOn := false }

/-- `RESET_STEP` = 10 (R9). -/
def Config.resetStep : BitVec 7 := 10

end Sys2Proof
end

