-- ==== Sys2Proof/Syntax.lean ====
section
/-! DEFINITION. The instructions of FDIR: one constructor per row of spec/opcode_table.json, in its order. -/

namespace Sys2Proof

/-- One presented frame after classification (30_encoding.md R74): the INVALID class, the 14 command literals of
R76, the UNKNOWN class. The two class rows carry the whole frame, which is the operand of R174 and R175. -/
inductive Instr where
  /-- `(INVALID)`: R174. -/
  | invalid (f : Frame)
  /-- `TURNON`: R160. -/
  | turnOn
  /-- `TURNOFF`: R161. -/
  | turnOff
  /-- `BRUP`: R162. -/
  | brUp
  /-- `BRDOWN`: R163. -/
  | brDown
  /-- `SETPCT 100`: R164. -/
  | setPct100
  /-- `SETPCT 90`: R165. -/
  | setPct90
  /-- `SETPCT 80`: R166. -/
  | setPct80
  /-- `SETPCT 70`: R167. -/
  | setPct70
  /-- `SETPCT 60`: R168. -/
  | setPct60
  /-- `SETPCT 50`: R169. -/
  | setPct50
  /-- `SETPCT 40`: R170. -/
  | setPct40
  /-- `SETPCT 30`: R171. -/
  | setPct30
  /-- `SETPCT 20`: R172. -/
  | setPct20
  /-- `SETPCT 10`: R173. -/
  | setPct10
  /-- `(UNKNOWN)`: R175. -/
  | unknown (f : Frame)
  deriving DecidableEq, Repr

end Sys2Proof
end

