-- ==== Sys2Proof/Machine/CommandTable.lean ====
section
/-! DEFINITION. CommandTable (41_command_decode.md): the 14 literals and the constant, total `lookup`. -/

namespace Sys2Proof.Machine

/-- The command map of 30_encoding.md R76, one row per literal. -/
def literalTable : List (Frame × Instr) :=
  [(0xFC03EF00#32, .turnOn), (0xFD02EF00#32, .turnOff),
   (0xFF00EF00#32, .brUp), (0xFE01EF00#32, .brDown),
   (0xFB04EF00#32, .setPct100), (0xF708EF00#32, .setPct90),
   (0xF30CEF00#32, .setPct80), (0xEF10EF00#32, .setPct70),
   (0xEB14EF00#32, .setPct60), (0xFA05EF00#32, .setPct50),
   (0xF609EF00#32, .setPct40), (0xF20DEF00#32, .setPct30),
   (0xEE11EF00#32, .setPct20), (0xEA15EF00#32, .setPct10)]

/-- Whether a frame is one of the 14 literals, on all 32 bits (R77). -/
def isLiteral (f : Frame) : Bool := literalTable.any (fun row => row.1 == f)

/-- `lookup(f)`: the row whose literal equals f, and `Unknown(f)` if there is none (R120, R121). -/
def lookup (f : Frame) : Instr :=
  match literalTable.find? (fun row => row.1 == f) with
  | some row => row.2
  | none => .unknown f

end Sys2Proof.Machine
end

