-- ==== Sys2Proof/Machine/FrameValidator.lean ====
section
/-! DEFINITION. FrameValidator (40_frame_validator.md): the fields of a frame, the two integrity predicates and
`validate`. Stateless and combinational (R101). -/

namespace Sys2Proof.Machine

/-- ADDR, byte0: bits [7:0] (R52, R71). -/
def addr (f : Frame) : Byte := f.extractLsb' 0 8

/-- NADDR, byte1: bits [15:8] (R52, R71). -/
def naddr (f : Frame) : Byte := f.extractLsb' 8 8

/-- DATA, byte2: bits [23:16] (R52, R71). -/
def data (f : Frame) : Byte := f.extractLsb' 16 8

/-- NDATA, byte3: bits [31:24] (R52, R71). -/
def ndata (f : Frame) : Byte := f.extractLsb' 24 8

/-- `~8(v)`: `v XOR 0xFF` (R13). -/
def complement8 (b : Byte) : Byte := b ^^^ 0xFF#8

/-- `{NDATA, DATA, NADDR, ADDR}`, most significant first (R12, R71). -/
def frameOf (nd d na a : Byte) : Frame := nd ++ d ++ na ++ a

/-- `addr_ok(f)` (R72). -/
def addrOk (f : Frame) : Bool := naddr f == complement8 (addr f)

/-- `data_ok(f)` (R72). -/
def dataOk (f : Frame) : Bool := ndata f == complement8 (data f)

/-- `valid(P, f) = data_ok(f) AND (addr_ok(f) OR NOT P.P_ADDR_CHECK)` (R72). -/
def valid (P : Params) (f : Frame) : Bool := dataOk f && (addrOk f || !P.addrCheck)

/-- The pair FrameValidator extracts from a valid frame (R100, R102). -/
structure DecodedCommand where
  addr : Byte
  data : Byte
  deriving DecidableEq, Repr

/-- `validate(P, f)`; `none` is `Invalid`, which carries no partial result (R100, R102, R103). -/
def validate (P : Params) (f : Frame) : Option DecodedCommand :=
  if valid P f then some ⟨addr f, data f⟩ else none

end Sys2Proof.Machine
end

