-- ==== Sys2Proof/WellFormed.lean ====
section
/-! DEFINITION. Which instructions a frame can decode to under the parameters P (30_encoding.md R74). -/

namespace Sys2Proof

/-- `i` is the class of some frame under P: an INVALID row carries a frame that fails validation, an UNKNOWN row a
valid frame outside the table, and a literal row needs its literal to be valid, which R79 says holds exactly
when `P_ADDR_CHECK` is false. -/
def Instr.wellFormed (P : Params) : Instr → Bool
  | .invalid f => !Machine.valid P f
  | .unknown f => Machine.valid P f && !Machine.isLiteral f
  | .turnOn | .turnOff | .brUp | .brDown
  | .setPct100 | .setPct90 | .setPct80 | .setPct70 | .setPct60
  | .setPct50 | .setPct40 | .setPct30 | .setPct20 | .setPct10 => !P.addrCheck

end Sys2Proof
end

