-- ==== Sys2Proof/Decode.lean ====
section
/-! DEFINITION. Decoding a frame (30_encoding.md R74: validation first, then the table), total on every frame
(R75); the byte-level decoder that refuses a partial frame by name; the encoder; and the host's view of a table row. -/

namespace Sys2Proof

/-- The class of frame f under P, tested in the order of R74. -/
def decode (P : Params) (f : Frame) : Instr :=
  if Machine.valid P f then Machine.lookup f else .invalid f

/-- Why a list of bytes is no frame. -/
inductive DecodeReject where
  /-- Fewer than four bytes: FDIR never consumes part of a frame (R54). DESIGN CHOICE, safe, log 13. -/
  | partialFrame (have_ : Nat)
  deriving DecidableEq, Repr

/-- The first frame of a byte list, byte0 first (R52), with the bytes after it. -/
def decodeBytes (P : Params) : List Byte → Except DecodeReject (Instr × List Byte)
  | b0 :: b1 :: b2 :: b3 :: rest => .ok (decode P (Machine.frameOf b3 b2 b1 b0), rest)
  | short => .error (.partialFrame short.length)

/-- The frame of an instruction, from the column Frame of R76. -/
def encode : Instr → Frame
  | .invalid f => f
  | .turnOn => 0xFC03EF00#32
  | .turnOff => 0xFD02EF00#32
  | .brUp => 0xFF00EF00#32
  | .brDown => 0xFE01EF00#32
  | .setPct100 => 0xFB04EF00#32
  | .setPct90 => 0xF708EF00#32
  | .setPct80 => 0xF30CEF00#32
  | .setPct70 => 0xEF10EF00#32
  | .setPct60 => 0xEB14EF00#32
  | .setPct50 => 0xFA05EF00#32
  | .setPct40 => 0xF609EF00#32
  | .setPct30 => 0xF20DEF00#32
  | .setPct20 => 0xEE11EF00#32
  | .setPct10 => 0xEA15EF00#32
  | .unknown f => f

/-- The frame of a table word of nbits bits, the bits above them 0. Bit 0 of the word is bit 0 of the frame (R12). -/
def tableFrame (nbits w : Nat) : Frame := BitVec.ofNat 32 (w % 2 ^ nbits)

/-- The value of `P_ADDR_CHECK` under which the host reads a table word: false for the 14 literals, which no other
value lets through validation (R79 and the table's `condition`), the spec's default true for every other word.
DESIGN CHOICE, unsafe, log 4. -/
def tableAddrCheck (f : Frame) : Bool := !Machine.isLiteral f

/-- What the decoder reads from a table word; a word of more than 32 bits is no frame (R70). -/
def decodeTableWord (nbits w : Nat) : Option Instr :=
  if nbits ≤ 32 then
    some (decode
      { Params.default with addrCheck := tableAddrCheck (tableFrame nbits w) } (tableFrame nbits w))
  else none

end Sys2Proof
end

