-- ==== Sys2Proof/Machine/Operands.lean ====
section
/-! DEFINITION. The operands and the arithmetic of LightController. No operand comes from a field of the frame
(30_encoding.md R73): a percent or a delta is fixed by the literal. STEP arithmetic is exact (R151), LEVEL is
`LEVEL_FN` of STEP (R150). -/

namespace Sys2Proof.Machine

/-- The values of SetPercent (R126), the contract of setPercent (R154, R156). -/
def percentSet : List (BitVec 7) := [10, 20, 30, 40, 50, 60, 70, 80, 90, 100]

/-- The contract of adjustStep: delta is +1 or -1 (R155, R156). -/
def deltaInContract (delta : Int) : Bool := delta == 1 || delta == -1

/-- `clamp(x, lo, hi)` on unbounded integers (R13). -/
def clamp (x lo hi : Int) : Int := if x < lo then lo else if x > hi then hi else x

/-- STEP after an adjustment: the sum is exact, then clamped to 1..100, never wrapped (R151, R155). -/
def adjustedStep (step : BitVec 7) (delta : Int) : BitVec 7 :=
  BitVec.ofInt 7 (clamp (step.toNat + delta) 1 100)

/-- `LEVEL_TRUNC_SAT(s) = min(floor(s * 65536 / 100), 65535)` (R150). -/
def levelTruncSat (s : Nat) : Nat := min (s * 65536 / 100) 65535

/-- `LEVEL_NEAREST_SAT(s) = min(floor((s * 65536 + 50) / 100), 65535)` (R150). -/
def levelNearestSat (s : Nat) : Nat := min ((s * 65536 + 50) / 100) 65535

/-- `LEVEL_FN` applied to a STEP value (R8, R150). -/
def levelOf (fn : LevelFn) (step : BitVec 7) : BitVec 16 :=
  match fn with
  | .truncSat => BitVec.ofNat 16 (levelTruncSat step.toNat)
  | .nearestSat => BitVec.ofNat 16 (levelNearestSat step.toNat)

end Sys2Proof.Machine
end

