-- ==== Sys2Proof/Machine/State.lean ====
section
/-! DEFINITION. The state of FDIR: the three registers of 10_state.md R20, and beside them what the host's
interface needs in the state and the spec keeps outside it: the parameter record, the input sequence, the
event list of the last step and the trace (R14, R31, R33, R41; log 1, 2, 5). -/

namespace Sys2Proof.Machine

/-- The commands FDIR executes (41_command_decode.md R125, R126). `Unknown(f)` has no command code and is never
executed; it is the constructor `Instr.unknown`. -/
inductive Command where
  | turnOn
  | turnOff
  | brightnessUp
  | brightnessDown
  | setPercent (p : BitVec 7)
  deriving DecidableEq, Repr

/-- The five kinds of event of R41. -/
inductive Event where
  /-- a call `setDutyCycle(v)` (R34) -/
  | dutyWrite (v : BitVec 16)
  /-- a call `setOutputEnabled(b)` (R35) -/
  | enableWrite (b : Bool)
  /-- the diagnostic event of an executed command (R212) -/
  | accept (c : Command)
  /-- the diagnostic event of R202 -/
  | invalidFrame (f : Frame)
  /-- the diagnostic event of R203 -/
  | unknownCommand (f : Frame)
  deriving DecidableEq, Repr

/-- What the outside presents between two states: the input of `Step` (R14, R33), or a reset (R38). -/
inductive Input where
  /-- `none`: no frame is presented -/
  | idle
  /-- `frame(f)` -/
  | frame (f : Frame)
  /-- `rst` asserted, or power-up; it consumes no frame (R232). DEDUCED, safe, log 9. It carries no `frame_data`: log 16. -/
  | reset
  deriving DecidableEq, Repr

structure State where
  /-- IS_ON (R23) -/
  isOn : Bool
  /-- STEP (R24) -/
  stepReg : BitVec 7
  /-- LEVEL (R26) -/
  level : BitVec 16
  /-- the parameter record P (R14); no step writes it. The model's field, log 1. -/
  params : Params
  /-- the inputs still to be presented, the next one first; an empty list presents `none` for ever.
  The model's field, DESIGN CHOICE, log 2. -/
  inputs : List Input
  /-- the events of the last step, in the order they were emitted (R41). The model's field, log 5. -/
  events : List Event
  /-- the events of all steps since reset (R41, R216). The model's field, log 5. -/
  trace : List Event
  deriving DecidableEq, Repr

/-- FDIR has no exception, trap or stuck state (R200, R214): no step of the model faults. DEDUCED, safe, log 8. -/
inductive Fault where
  deriving DecidableEq, Repr

inductive Refusal where
  /-- Raised by an arm of exec that has no meaning yet; none has it. Safe. -/
  | notModelled (mnemonic : String)
  /-- Raised by step from a state that is not well-formed, unless the input is a reset (R25, R27, U11). Safe, log 6. -/
  | illFormedStart
  /-- Raised by setPercent called directly with p outside the contract (R215). No arm of exec reaches it. Safe, log 7. -/
  | percentOutOfContract
  /-- Raised by adjustStep called directly with delta outside the contract (R215). No arm of exec reaches it.
  Safe, log 7. -/
  | deltaOutOfContract
  deriving DecidableEq, Repr

/-- `Reset(P)` (R230): no event is emitted (R231), nothing else is state. -/
def State.resetWith (P : Params) : State :=
  { isOn := P.resetIsOn
    stepReg := Config.resetStep
    level := levelOf P.levelFn Config.resetStep
    params := P
    inputs := []
    events := []
    trace := [] }

/-- The machine right after reset, with the spec's default parameters (R230; log 3). -/
def State.reset : State := State.resetWith Params.default

end Sys2Proof.Machine
end

