-- ==== Sys2Proof/Machine/Ops.lean ====
section
/-! DEFINITION. The named operations: emitting an event, the operations of LightController (42_brightness_commands.md
R152 to R156), taking an input, and reset. FDIR has no memory (R50). It takes no exception and returns from none
(R200, R206): InvalidFrame and UnknownCommand are events of a step, emitted like any other. -/

namespace Sys2Proof.Machine

/-- What a step or a meaning answers. -/
abbrev Result := Host.Outcome State Fault Refusal

/-- `emit E`: append E to the step's event list (R13), and so to the trace (R41). -/
def emit (e : Event) (s : State) : State :=
  { s with events := s.events ++ [e], trace := s.trace ++ [e] }

/-- `turnOn(S)` (R152): the unchanged LEVEL is written before the output is enabled (R58). -/
def turnOn (s : State) : State :=
  emit (.enableWrite true) (emit (.dutyWrite s.level) { s with isOn := true })

/-- `turnOff(S)` (R153): no duty write, STEP and LEVEL kept. -/
def turnOff (s : State) : State :=
  emit (.enableWrite false) { s with isOn := false }

/-- Write STEP and with it LEVEL, and write LEVEL to the PWM interface (R26, R154, R155). -/
def writeStep (step : BitVec 7) (s : State) : State :=
  emit (.dutyWrite (levelOf s.params.levelFn step))
    { s with stepReg := step, level := levelOf s.params.levelFn step }

/-- `setPercent(P, S, p)` (R154); a p outside the contract is refused, neither clamped nor given a value (R215). -/
def setPercent (p : BitVec 7) (s : State) : Result :=
  if percentSet.contains p then .next (writeStep p s) else .refused .percentOutOfContract

/-- `adjustStep(P, S, delta)` (R155); a delta outside the contract is refused (R215). -/
def adjustStep (delta : Int) (s : State) : Result :=
  if deltaInContract delta then .next (writeStep (adjustedStep s.stepReg delta) s)
  else .refused .deltaOutOfContract

/-- `emit Accept(c)` after a command's operation (R157). -/
def accepted (c : Command) : Result → Result
  | .next s => .next (emit (.accept c) s)
  | .fault r => .fault r
  | .refused r => .refused r

/-- A state the spec calls well-formed: STEP legal (R25) and `LEVEL == LEVEL_FN(STEP)` (R27). -/
def State.wellFormed (s : State) : Bool :=
  decide (1 ≤ s.stepReg.toNat ∧ s.stepReg.toNat ≤ 100)
    && s.level == levelOf s.params.levelFn s.stepReg

/-- The input of the ports `rst`, `frame_valid`, `frame_data` (R33, R38): `rst` first, and a step with it consumes
no frame (R232; DEDUCED, safe, log 9), so its `frame_data` is not kept (what the validator ports show then: log 16);
`frame_data` is ignored when `frame_valid` is 0. -/
def inputOfPorts (rst frameValid : Bool) (frameData : Frame) : Input :=
  if rst then .reset else if frameValid then .frame frameData else .idle

/-- The next input: `none` when the sequence is exhausted (DESIGN CHOICE, log 2). -/
def pendingInput (s : State) : Input := s.inputs.headD .idle

/-- Consume the next input, once (R55, R56), and begin the step's event list, empty (R41, R205). -/
def takeInput (s : State) : State := { s with inputs := s.inputs.tail, events := [] }

/-- A reset step: nothing of the previous state survives (R232), no event is emitted (R231), a new run begins
(R216). The inputs belong to the outside and P is no state, so both stay (log 5, log 9). -/
def applyReset (s : State) : State := { State.resetWith s.params with inputs := s.inputs }

/-- A program: the sequence of inputs the outside will present (R61, R216). -/
def State.withInputs (ins : List Input) (s : State) : State := { s with inputs := ins }

end Sys2Proof.Machine
end

