-- ==== Sys2Proof/Machine/Adjust.lean ====
section
/-! DEFINITION. BRUP and BRDOWN (42_brightness_commands.md R162, R163; R179). -/

namespace Sys2Proof.Machine

/-- BRUP: `adjustStep(P, S, +1)`, then `emit Accept(BrightnessUp)` (R162). -/
def execBrUp (s : State) : Result := accepted .brightnessUp (adjustStep 1 s)

/-- BRDOWN: `adjustStep(P, S, -1)`, then `emit Accept(BrightnessDown)` (R163). -/
def execBrDown (s : State) : Result := accepted .brightnessDown (adjustStep (-1) s)

end Sys2Proof.Machine
end

