-- ==== Sys2Proof/Machine/Discarded.lean ====
section
/-! DEFINITION. The two classes of frame that execute no command (42_brightness_commands.md R174, R175): the
diagnostic event is their whole effect. -/

namespace Sys2Proof.Machine

/-- INVALID frame: `emit InvalidFrame(f)`, no register written, no output call (R174, R202). -/
def execInvalid (f : Frame) (s : State) : Result := .next (emit (.invalidFrame f) s)

/-- UNKNOWN frame: `emit UnknownCommand(f)`, no register written, no output call (R175, R203). -/
def execUnknown (f : Frame) (s : State) : Result := .next (emit (.unknownCommand f) s)

end Sys2Proof.Machine
end

