-- ==== Sys2Proof/Machine/Percent.lean ====
section
/-! DEFINITION. The ten SETPCT commands (42_brightness_commands.md R164 to R173; R179): `setPercent(P, S, p)`, then
`emit Accept(SetPercent(p))`, with p fixed by the literal. -/

namespace Sys2Proof.Machine

/-- SETPCT 100 (R164). -/
def execSetPct100 (s : State) : Result := accepted (.setPercent 100) (setPercent 100 s)

/-- SETPCT 90 (R165). -/
def execSetPct90 (s : State) : Result := accepted (.setPercent 90) (setPercent 90 s)

/-- SETPCT 80 (R166). -/
def execSetPct80 (s : State) : Result := accepted (.setPercent 80) (setPercent 80 s)

/-- SETPCT 70 (R167). -/
def execSetPct70 (s : State) : Result := accepted (.setPercent 70) (setPercent 70 s)

/-- SETPCT 60 (R168). -/
def execSetPct60 (s : State) : Result := accepted (.setPercent 60) (setPercent 60 s)

/-- SETPCT 50 (R169). -/
def execSetPct50 (s : State) : Result := accepted (.setPercent 50) (setPercent 50 s)

/-- SETPCT 40 (R170). -/
def execSetPct40 (s : State) : Result := accepted (.setPercent 40) (setPercent 40 s)

/-- SETPCT 30 (R171). -/
def execSetPct30 (s : State) : Result := accepted (.setPercent 30) (setPercent 30 s)

/-- SETPCT 20 (R172). -/
def execSetPct20 (s : State) : Result := accepted (.setPercent 20) (setPercent 20 s)

/-- SETPCT 10 (R173). -/
def execSetPct10 (s : State) : Result := accepted (.setPercent 10) (setPercent 10 s)

end Sys2Proof.Machine
end

