-- ==== Sys2Proof/Machine/Switch.lean ====
section
/-! DEFINITION. TURNON and TURNOFF (42_brightness_commands.md R160, R161; R179). -/

namespace Sys2Proof.Machine

/-- TURNON: `turnOn(S)`, then `emit Accept(TurnOn)` (R160). -/
def execTurnOn (s : State) : Result := accepted .turnOn (.next (turnOn s))

/-- TURNOFF: `turnOff(S)`, then `emit Accept(TurnOff)` (R161). -/
def execTurnOff (s : State) : Result := accepted .turnOff (.next (turnOff s))

end Sys2Proof.Machine
end

