-- ==== Sys2Proof/Machine/Dispatch.lean ====
section
/-! DEFINITION. exec: one arm per instruction (42_brightness_commands.md R179, R174, R175). -/

namespace Sys2Proof.Machine

def exec (i : Instr) (s : State) : Host.Outcome State Fault Refusal :=
  match i with
  | .invalid f => Sys2Proof.Machine.execInvalid f s
  | .turnOn => Sys2Proof.Machine.execTurnOn s
  | .turnOff => Sys2Proof.Machine.execTurnOff s
  | .brUp => Sys2Proof.Machine.execBrUp s
  | .brDown => Sys2Proof.Machine.execBrDown s
  | .setPct100 => Sys2Proof.Machine.execSetPct100 s
  | .setPct90 => Sys2Proof.Machine.execSetPct90 s
  | .setPct80 => Sys2Proof.Machine.execSetPct80 s
  | .setPct70 => Sys2Proof.Machine.execSetPct70 s
  | .setPct60 => Sys2Proof.Machine.execSetPct60 s
  | .setPct50 => Sys2Proof.Machine.execSetPct50 s
  | .setPct40 => Sys2Proof.Machine.execSetPct40 s
  | .setPct30 => Sys2Proof.Machine.execSetPct30 s
  | .setPct20 => Sys2Proof.Machine.execSetPct20 s
  | .setPct10 => Sys2Proof.Machine.execSetPct10 s
  | .unknown f => Sys2Proof.Machine.execUnknown f s

end Sys2Proof.Machine
end

