-- ==== Sys2Proof/Machine/Dispatcher.lean ====
section
/-! DEFINITION. Dispatcher: what one input does (42_brightness_commands.md R157, R158; 70_reset_and_hazards.md R232). -/

namespace Sys2Proof.Machine

/-- What one input does to a state: a reset applies to any state (R232); every other input only to a well-formed
one (R14, R25, R27; log 6), where no frame changes nothing (R158) and a frame is classified and executed (R157). -/
def stepOn (input : Input) (s : State) : Result :=
  match input with
  | .reset => .next (applyReset s)
  | .idle => if s.wellFormed then .next s else .refused .illFormedStart
  | .frame f => if s.wellFormed then exec (decode s.params f) s else .refused .illFormedStart

end Sys2Proof.Machine
end

