-- ==== Sys2Proof/Machine/Step.lean ====
section
/-! DEFINITION. One pass of the Dispatcher loop (42_brightness_commands.md R157, R158), or a reset step (R232). -/

namespace Sys2Proof.Machine

/-- One step: take the next input and act on it. -/
def step (s : State) : Host.Outcome State Fault Refusal := stepOn (pendingInput s) (takeInput s)

/-- The state whose next step runs the instruction of a table word: its frame stands first in the input sequence,
and `P_ADDR_CHECK` has the value under which the word is its row's (DESIGN CHOICE, unsafe, log 4). -/
def State.withFetchWord (s : State) (nbits w : Nat) : State :=
  { s with
    inputs := .frame (tableFrame nbits w) :: s.inputs
    params := { s.params with addrCheck := tableAddrCheck (tableFrame nbits w) } }

end Sys2Proof.Machine
end

