-- ==== Sys2Proof/Machine/Assembler.lean ====
section
/-! DEFINITION. The lines of a frame program and the two pseudo-instructions (30_encoding.md R83, R84), as abstract
lines; the spelling of a line in characters is not modelled (log 14). -/

namespace Sys2Proof.Machine

/-- One line of a frame program (R83, R84). -/
inductive AsmLine where
  | turnOn
  | turnOff
  | brUp
  | brDown
  /-- `SETPCT p` -/
  | setPct (p : Nat)
  /-- `.frame v` -/
  | frame (v : Frame)
  /-- `IDLE` -/
  | idle
  /-- `NEC a, d` -/
  | nec (a d : Byte)
  /-- `NECX n, d` -/
  | necx (n d : Byte)
  deriving DecidableEq, Repr

/-- Why a line presents no input. -/
inductive AsmError where
  /-- `SETPCT p` with p outside 10, 20, ..., 100 (R83). -/
  | percentOutsideTable (p : Nat)
  deriving DecidableEq, Repr

/-- The literal of `SetPercent(p)` (R76). -/
def percentLiteral (p : Nat) : Option Frame :=
  match p with
  | 100 => some 0xFB04EF00#32
  | 90 => some 0xF708EF00#32
  | 80 => some 0xF30CEF00#32
  | 70 => some 0xEF10EF00#32
  | 60 => some 0xEB14EF00#32
  | 50 => some 0xFA05EF00#32
  | 40 => some 0xF609EF00#32
  | 30 => some 0xF20DEF00#32
  | 20 => some 0xEE11EF00#32
  | 10 => some 0xEA15EF00#32
  | _ => none

/-- `NEC a, d` = `{~8(d), d, ~8(a), a}` (R84). -/
def necFrame (a d : Byte) : Frame := frameOf (complement8 d) d (complement8 a) a

/-- `NECX n, d` = `{~8(d), d, n, 0x00}` (R84). -/
def necxFrame (n d : Byte) : Frame := frameOf (complement8 d) d n 0x00#8

/-- The input a line presents (R83, R84). -/
def assemble : AsmLine → Except AsmError Input
  | .turnOn => .ok (.frame 0xFC03EF00#32)
  | .turnOff => .ok (.frame 0xFD02EF00#32)
  | .brUp => .ok (.frame 0xFF00EF00#32)
  | .brDown => .ok (.frame 0xFE01EF00#32)
  | .setPct p =>
    match percentLiteral p with
    | some f => .ok (.frame f)
    | none => .error (.percentOutsideTable p)
  | .frame v => .ok (.frame v)
  | .idle => .ok .idle
  | .nec a d => .ok (.frame (necFrame a d))
  | .necx n d => .ok (.frame (necxFrame n d))

/-- A program: its lines' inputs in order, or the first line's error (R83). -/
def assembleProgram : List AsmLine → Except AsmError (List Input)
  | [] => .ok []
  | line :: rest =>
    match assemble line, assembleProgram rest with
    | .ok i, .ok is => .ok (i :: is)
    | .error e, _ => .error e
    | .ok _, .error e => .error e

end Sys2Proof.Machine
end

