-- ==== Sys2Proof/Machine/Flags.lean ====
section
/-! DEFINITION. FDIR has no condition flags (10_state.md R31). What stands in their place are the output ports
(R34 to R37, R40): `duty` and `out_en` from the registers, the strobes and the diagnostic ports from the event
list of the step, the validator ports from the presented frame. Read them in the state after a step. -/

namespace Sys2Proof.Machine

/-- The diagnostic kinds of event (R41). -/
def Event.isDiagnostic : Event → Bool
  | .dutyWrite _ | .enableWrite _ => false
  | .accept _ | .invalidFrame _ | .unknownCommand _ => true

/-- Whether an event is a call of `setDutyCycle` (R34). -/
def Event.isDutyWrite : Event → Bool
  | .dutyWrite _ => true
  | .enableWrite _ | .accept _ | .invalidFrame _ | .unknownCommand _ => false

/-- Whether an event is a call of `setOutputEnabled` (R35). -/
def Event.isEnableWrite : Event → Bool
  | .enableWrite _ => true
  | .dutyWrite _ | .accept _ | .invalidFrame _ | .unknownCommand _ => false

/-- Port `duty` (R34). -/
def duty (s : State) : BitVec 16 := s.level

/-- Port `duty_wr` (R34). -/
def dutyWr (s : State) : Bool := s.events.any Event.isDutyWrite

/-- Port `out_en` (R35). -/
def outEn (s : State) : Bool := s.isOn

/-- Port `en_wr` (R35). -/
def enWr (s : State) : Bool := s.events.any Event.isEnableWrite

/-- The diagnostic event of the step, of which there is at most one (R41, R212). -/
def diagnostic (s : State) : Option Event := s.events.find? Event.isDiagnostic

/-- `evt_cmd_kind` of a command (R125). -/
def cmdKind : Command → BitVec 3
  | .turnOn => 0
  | .turnOff => 1
  | .brightnessUp => 2
  | .brightnessDown => 3
  | .setPercent _ => 4

/-- `evt_cmd_pct` of a command (R125). -/
def cmdPct : Command → BitVec 7
  | .turnOn | .turnOff | .brightnessUp | .brightnessDown => 0
  | .setPercent p => p

/-- Port `evt_kind`: NONE 0, ACCEPT 1, INVALID 2, UNKNOWN 3 (R37, R201). -/
def evtKind (s : State) : BitVec 2 :=
  match diagnostic s with
  | some (.accept _) => 1
  | some (.invalidFrame _) => 2
  | some (.unknownCommand _) => 3
  | some (.dutyWrite _) | some (.enableWrite _) | none => 0

/-- Port `evt_frame` (R37, R202, R203). -/
def evtFrame (s : State) : Frame :=
  match diagnostic s with
  | some (.invalidFrame f) | some (.unknownCommand f) => f
  | some (.accept _) | some (.dutyWrite _) | some (.enableWrite _) | none => 0

/-- Port `evt_cmd_kind` (R37, R125). -/
def evtCmdKind (s : State) : BitVec 3 :=
  match diagnostic s with
  | some (.accept c) => cmdKind c
  | some (.invalidFrame _) | some (.unknownCommand _) | some (.dutyWrite _) | some (.enableWrite _) | none => 0

/-- Port `evt_cmd_pct` (R37, R125). -/
def evtCmdPct (s : State) : BitVec 7 :=
  match diagnostic s with
  | some (.accept c) => cmdPct c
  | some (.invalidFrame _) | some (.unknownCommand _) | some (.dutyWrite _) | some (.enableWrite _) | none => 0

/-- Port `fv_ok` for a presented frame (R36). -/
def fvOk (P : Params) (f : Frame) : Bool := (validate P f).isSome

/-- Port `fv_addr` for a presented frame: 0x00 when it is invalid (R36, R103). -/
def fvAddr (P : Params) (f : Frame) : Byte :=
  match validate P f with
  | some c => c.addr
  | none => 0

/-- Port `fv_data` for a presented frame: 0x00 when it is invalid (R36, R103). -/
def fvData (P : Params) (f : Frame) : Byte :=
  match validate P f with
  | some c => c.data
  | none => 0

/-- The validator ports (`fv_ok`, `fv_addr`, `fv_data`) of the step about to run. They carry meaning only when a
frame is presented (R36), so a step with `frame_valid` = 0 has no value of them (DEDUCED, safe, log 11). The spec
does not say whether they carry meaning in a step with `rst` and `frame_valid` both 1 (R36 and R101 make them
combinational in `frame_data`, R232 says only that no frame is consumed): the model gives them no value there either
(DESIGN CHOICE, safe, log 16). -/
def fvPorts (s : State) : Option (Bool × Byte × Byte) :=
  match pendingInput s with
  | .frame f => some (fvOk s.params f, fvAddr s.params f, fvData s.params f)
  | .idle | .reset => none

end Sys2Proof.Machine
end

