-- ==== Sys2Proof/Safety.lean ====
section
/-! DEFINITION. The terms the statements use: runs over an input sequence, the three registers as one value, and a
plain transcription of the spec's function `Step(P, S, in)` (42_brightness_commands.md R157), which the machine
is held against. -/

namespace Sys2Proof.Machine

/-- A run: the machine takes the inputs one a step (60_exceptions.md R216). -/
def runInputs (ins : List Input) (s : State) : Result :=
  Host.Core.run Sys2Proof.core ins.length (s.withInputs ins)

/-- The architectural state S (10_state.md R20). -/
structure Light where
  isOn : Bool
  step : BitVec 7
  level : BitVec 16
  deriving DecidableEq, Repr

/-- The three registers of a machine state. -/
def State.light (s : State) : Light := ⟨s.isOn, s.stepReg, s.level⟩

/-- The registers after `Reset(P)` (R230). -/
def resetLight (P : Params) : Light := ⟨P.resetIsOn, 10, levelOf P.levelFn 10⟩

/-- A well-formed S (R25, R27). -/
def Light.wellFormed (P : Params) (S : Light) : Prop :=
  1 ≤ S.step.toNat ∧ S.step.toNat ≤ 100 ∧ S.level = levelOf P.levelFn S.step

/-- `lookup` as the case list of R120; `none` is `Unknown(f)`. -/
def specLookup (f : Frame) : Option Command :=
  if f = 0xFC03EF00#32 then some .turnOn
  else if f = 0xFD02EF00#32 then some .turnOff
  else if f = 0xFF00EF00#32 then some .brightnessUp
  else if f = 0xFE01EF00#32 then some .brightnessDown
  else if f = 0xFB04EF00#32 then some (.setPercent 100)
  else if f = 0xF708EF00#32 then some (.setPercent 90)
  else if f = 0xF30CEF00#32 then some (.setPercent 80)
  else if f = 0xEF10EF00#32 then some (.setPercent 70)
  else if f = 0xEB14EF00#32 then some (.setPercent 60)
  else if f = 0xFA05EF00#32 then some (.setPercent 50)
  else if f = 0xF609EF00#32 then some (.setPercent 40)
  else if f = 0xF20DEF00#32 then some (.setPercent 30)
  else if f = 0xEE11EF00#32 then some (.setPercent 20)
  else if f = 0xEA15EF00#32 then some (.setPercent 10)
  else none

/-- `exec(P, S, c)` of R179, with the operations of R152 to R155. -/
def specExec (P : Params) (S : Light) : Command → Light × List Event
  | .turnOn => ({ S with isOn := true }, [.dutyWrite S.level, .enableWrite true])
  | .turnOff => ({ S with isOn := false }, [.enableWrite false])
  | .brightnessUp =>
    let step := BitVec.ofNat 7 (min (S.step.toNat + 1) 100)
    (⟨S.isOn, step, levelOf P.levelFn step⟩, [.dutyWrite (levelOf P.levelFn step)])
  | .brightnessDown =>
    let step := BitVec.ofNat 7 (max (S.step.toNat - 1) 1)
    (⟨S.isOn, step, levelOf P.levelFn step⟩, [.dutyWrite (levelOf P.levelFn step)])
  | .setPercent p => (⟨S.isOn, p, levelOf P.levelFn p⟩, [.dutyWrite (levelOf P.levelFn p)])

/-- `Step(P, S, in)` of R157: `none` for no frame. The validity test is written on the numbers of the two byte
pairs, by shift and mask (R52, R53): a byte and its complement sum to 255. -/
def specStep (P : Params) (S : Light) : Option Frame → Light × List Event
  | none => (S, [])
  | some f =>
    let byte (k : Nat) : Nat := (f.toNat >>> (8 * k)) &&& 0xFF
    if ¬(byte 3 + byte 2 = 255 ∧ (P.addrCheck = true → byte 1 + byte 0 = 255)) then (S, [.invalidFrame f])
    else
      match specLookup f with
      | none => (S, [.unknownCommand f])
      | some c => ((specExec P S c).1, (specExec P S c).2 ++ [.accept c])

/-- The run of R216: the registers and the trace after a sequence of inputs, from registers S and trace so far. -/
def specRun (P : Params) : List (Option Frame) → Light × List Event → Light × List Event
  | [], obs => obs
  | i :: rest, (S, trace) => specRun P rest ((specStep P S i).1, trace ++ (specStep P S i).2)

/-- The input of the machine for an `in` of `Step`. -/
def inputOf : Option Frame → Input
  | none => .idle
  | some f => .frame f

/-- The input that presents TURNON or TURNOFF. -/
def switchInput (on : Bool) : Input := .frame (if on then 0xFC03EF00#32 else 0xFD02EF00#32)

end Sys2Proof.Machine
end

