-- ==== Sys2Proof/Certificates/Slice0/Obligations.lean ====
section
/-! DEFINITION. The statements for the provers. Each docstring names the rules of spec/ it formalises. Every one
quantifies over the open parameters P or names the value it needs. -/

open Sys2Proof Sys2Proof.Machine

/-! ### Encoding and decoding -/

/-- Decoding the frame of a well-formed instruction gives it back, for every parameter record
(30_encoding.md R70, R74 to R77). -/
def Obligations.DecodeOfEncodeIsTheInstruction : Prop :=
  ∀ (P : Params) (i : Instr), i.wellFormed P = true → decode P (encode i) = i

/-- Every frame decodes to a well-formed instruction whose frame it is (30_encoding.md R75). -/
def Obligations.EveryFrameDecodesToItsOwnInstruction : Prop :=
  ∀ (P : Params) (f : Frame), (decode P f).wellFormed P = true ∧ encode (decode P f) = f

/-- R74, R204: the three classes, tested in order; a frame that fails validation is INVALID whether or not it is in
the table, a valid one is its row's command or UNKNOWN, and no frame has two classes. -/
def Obligations.FramesClassifyInThePrescribedOrder : Prop :=
  ∀ (P : Params) (f : Frame),
    (valid P f = false → decode P f = .invalid f) ∧
    (valid P f = true → ∀ row ∈ literalTable, f = row.1 → decode P f = row.2) ∧
    (valid P f = true → (∀ row ∈ literalTable, f ≠ row.1) → decode P f = .unknown f)

/-- R120: the 14 rows, and `Unknown(f)` for every other frame. R77: a frame gets a command only if it is that
command's literal on all 32 bits. -/
def Obligations.LookupIsTheCommandTable : Prop :=
  lookup 0xFC03EF00#32 = .turnOn ∧ lookup 0xFD02EF00#32 = .turnOff ∧
  lookup 0xFF00EF00#32 = .brUp ∧ lookup 0xFE01EF00#32 = .brDown ∧
  lookup 0xFB04EF00#32 = .setPct100 ∧ lookup 0xF708EF00#32 = .setPct90 ∧
  lookup 0xF30CEF00#32 = .setPct80 ∧ lookup 0xEF10EF00#32 = .setPct70 ∧
  lookup 0xEB14EF00#32 = .setPct60 ∧ lookup 0xFA05EF00#32 = .setPct50 ∧
  lookup 0xF609EF00#32 = .setPct40 ∧ lookup 0xF20DEF00#32 = .setPct30 ∧
  lookup 0xEE11EF00#32 = .setPct20 ∧ lookup 0xEA15EF00#32 = .setPct10 ∧
  (∀ f : Frame, f ∉ [0xFC03EF00#32, 0xFD02EF00#32, 0xFF00EF00#32, 0xFE01EF00#32, 0xFB04EF00#32, 0xF708EF00#32,
      0xF30CEF00#32, 0xEF10EF00#32, 0xEB14EF00#32, 0xFA05EF00#32, 0xF609EF00#32, 0xF20DEF00#32, 0xEE11EF00#32,
      0xEA15EF00#32] → lookup f = .unknown f) ∧
  (∀ f : Frame, lookup f ≠ .unknown f → f = encode (lookup f))

/-- Words written out from the Frame column of R76, one of each family, decode to their instruction: the literals
with the address check off, an INVALID and an UNKNOWN word under both values. -/
def Obligations.WordsOfTheTableDecode : Prop :=
  (∀ P : Params, P.addrCheck = false →
    decode P 0xFC03EF00#32 = .turnOn ∧ decode P 0xFD02EF00#32 = .turnOff ∧ decode P 0xFF00EF00#32 = .brUp ∧
    decode P 0xFE01EF00#32 = .brDown ∧ decode P 0xFB04EF00#32 = .setPct100 ∧ decode P 0xFA05EF00#32 = .setPct50) ∧
  (∀ P : Params, decode P 0xDEADBEEF#32 = .invalid 0xDEADBEEF#32 ∧
    decode P 0xFC03FF00#32 = .unknown 0xFC03FF00#32)

/-- R79: with the address check no literal is valid, each is INVALID and no frame is a command; without it every
literal is valid and decodes to its own row; the data relation holds for all 14. -/
def Obligations.LiteralsAreValidOnlyWithoutAddressCheck : Prop :=
  (∀ row ∈ literalTable, dataOk row.1 = true ∧ addrOk row.1 = false) ∧
  (∀ P : Params, P.addrCheck = true →
    (∀ row ∈ literalTable, decode P row.1 = .invalid row.1) ∧
    (∀ f : Frame, decode P f = .invalid f ∨ decode P f = .unknown f)) ∧
  (∀ P : Params, P.addrCheck = false → ∀ row ∈ literalTable, valid P row.1 = true ∧ decode P row.1 = row.2)

/-- R78: the two progressions of the SETPCT data bytes; every frame outside the 14 literals is Unknown all the
same, two frames that continue the progressions among them. -/
def Obligations.PercentDataBytesFormTwoProgressions : Prop :=
  (∀ row ∈ [(100, Instr.setPct100), (90, .setPct90), (80, .setPct80), (70, .setPct70), (60, .setPct60)],
    (data (encode row.2)).toNat = 4 * (11 - row.1 / 10)) ∧
  (∀ row ∈ [(50, Instr.setPct50), (40, .setPct40), (30, .setPct30), (20, .setPct20), (10, .setPct10)],
    (data (encode row.2)).toNat = 4 * (6 - row.1 / 10) + 1) ∧
  (∀ f : Frame, (∀ row ∈ literalTable, f ≠ row.1) → lookup f = .unknown f) ∧
  (∀ P : Params, valid P 0xE718EF00#32 = true → decode P 0xE718EF00#32 = .unknown 0xE718EF00#32) ∧
  (∀ P : Params, valid P 0xE619EF00#32 = true → decode P 0xE619EF00#32 = .unknown 0xE619EF00#32)

/-- R82: how many of the 2^32 frames fall in each class, for both values of `P_ADDR_CHECK`. -/
def Obligations.ClassSizesAreThoseOfTheTable : Prop :=
  (∀ P : Params, P.addrCheck = true →
    Nat.card {f : Frame // valid P f = true} = 65536 ∧
    Nat.card {f : Frame // decode P f ≠ .invalid f ∧ decode P f ≠ .unknown f} = 0 ∧
    Nat.card {f : Frame // decode P f = .unknown f} = 65536 ∧
    Nat.card {f : Frame // decode P f = .invalid f} = 4294901760 ∧
    (∀ a d : Byte, ∃! f : Frame, valid P f = true ∧ addr f = a ∧ data f = d)) ∧
  (∀ P : Params, P.addrCheck = false →
    Nat.card {f : Frame // valid P f = true} = 16777216 ∧
    Nat.card {f : Frame // decode P f ≠ .invalid f ∧ decode P f ≠ .unknown f} = 14 ∧
    Nat.card {f : Frame // decode P f = .unknown f} = 16777202 ∧
    Nat.card {f : Frame // decode P f = .invalid f} = 4278190080 ∧
    (∀ a na d : Byte, ∃! f : Frame, valid P f = true ∧ addr f = a ∧ naddr f = na ∧ data f = d))

/-- Four bytes (20_memory.md §2, §3; the decoder of byte lists is the model's own, log 13), the least significant first, are one frame and are consumed whole; fewer are refused
(the refusal's name is the model's choice, log 13). -/
def Obligations.BytesAssembleLittleEndianAndWhole : Prop :=
  (∀ (P : Params) (b0 b1 b2 b3 : Byte) (rest : List Byte) (f : Frame),
    f.toNat = b0.toNat + 256 * b1.toNat + 65536 * b2.toNat + 16777216 * b3.toNat →
      decodeBytes P (b0 :: b1 :: b2 :: b3 :: rest) = .ok (decode P f, rest)) ∧
  (∀ (P : Params) (bs : List Byte), bs.length < 4 → decodeBytes P bs = .error (.partialFrame bs.length))

/-- 30_encoding.md §6: each line of a program presents its input, and `SETPCT p` with any other p is an error. -/
def Obligations.AssemblerLinesPresentTheirInputs : Prop :=
  assemble .turnOn = .ok (.frame 0xFC03EF00#32) ∧ assemble .turnOff = .ok (.frame 0xFD02EF00#32) ∧
  assemble .brUp = .ok (.frame 0xFF00EF00#32) ∧ assemble .brDown = .ok (.frame 0xFE01EF00#32) ∧
  (∀ p : Nat, p ∈ [10, 20, 30, 40, 50, 60, 70, 80, 90, 100] →
    ∃ f, assemble (.setPct p) = .ok (.frame f) ∧ specLookup f = some (.setPercent (BitVec.ofNat 7 p))) ∧
  (∀ p : Nat, p ∉ [10, 20, 30, 40, 50, 60, 70, 80, 90, 100] →
    assemble (.setPct p) = .error (.percentOutsideTable p)) ∧
  (∀ v : Frame, assemble (.frame v) = .ok (.frame v)) ∧ assemble .idle = .ok .idle

/-- R84: the two pseudo-instructions by their four bytes; NEC frames are valid under both values of
`P_ADDR_CHECK`; the table literals are exactly `NECX 0xEF, d` for their d; the two examples. -/
def Obligations.PseudoInstructionsExpandToFrames : Prop :=
  (∀ a d : Byte, ∃ f : Frame, assemble (.nec a d) = .ok (.frame f) ∧
    f.toNat = a.toNat + 256 * (255 - a.toNat) + 65536 * d.toNat + 16777216 * (255 - d.toNat) ∧
    ∀ P : Params, valid P f = true ∧ addr f = a ∧ data f = d) ∧
  (∀ n d : Byte, ∃ f : Frame, assemble (.necx n d) = .ok (.frame f) ∧
    f.toNat = 256 * n.toNat + 65536 * d.toNat + 16777216 * (255 - d.toNat)) ∧
  (∀ row ∈ literalTable, assemble (.necx 0xEF#8 (data row.1)) = .ok (.frame row.1)) ∧
  (∀ P : Params, ∃ f : Frame, assemble (.nec 0x00#8 0x03#8) = .ok (.frame f) ∧ decode P f = .unknown 0xFC03FF00#32) ∧
  assemble (.necx 0xEF#8 0x03#8) = assemble .turnOn

/-! ### FrameValidator -/

/-- R100, R104, R105 with the byte order of R52: `validate` written on the frame as a number, its bytes taken by
shift and mask. -/
def Obligations.ValidateByShiftAndMask : Prop :=
  (∀ (P : Params) (f : Frame) (byte : Nat → Nat), (∀ k, byte k = (f.toNat >>> (8 * k)) &&& 0xFF) →
    (byte 3 = byte 2 ^^^ 0xFF ∧ (byte 1 = byte 0 ^^^ 0xFF ∨ P.addrCheck = false) →
      ∃ c, validate P f = some c ∧ c.addr.toNat = byte 0 ∧ c.data.toNat = byte 2) ∧
    (¬(byte 3 = byte 2 ^^^ 0xFF ∧ (byte 1 = byte 0 ^^^ 0xFF ∨ P.addrCheck = false)) → validate P f = none)) ∧
  (∀ P : Params, P.addrCheck = false → (validate P 0xFC03EF00#32).isSome = true)

/-- R36, R102, R103: the validator ports on success and on failure, and that they carry meaning only with a frame
presented (no value with `frame_valid` = 0: log 11; none while `rst` is asserted: the model's choice, log 16). -/
def Obligations.ValidatorPortsFollowTheResult : Prop :=
  (∀ (P : Params) (f : Frame), valid P f = true →
    validate P f = some ⟨f.extractLsb' 0 8, f.extractLsb' 16 8⟩ ∧
    fvOk P f = true ∧ fvAddr P f = f.extractLsb' 0 8 ∧ fvData P f = f.extractLsb' 16 8) ∧
  (∀ (P : Params) (f : Frame), valid P f = false →
    validate P f = none ∧ fvOk P f = false ∧ fvAddr P f = 0x00#8 ∧ fvData P f = 0x00#8) ∧
  (∀ (s : State) (f : Frame), pendingInput s = .frame f →
    fvPorts s = some (fvOk s.params f, fvAddr s.params f, fvData s.params f))

/-- R106: which error masks a valid frame does not reveal, and how many nonzero ones there are. -/
def Obligations.UndetectedErrorMasks : Prop :=
  (∀ (P : Params) (f e : Frame), valid P f = true → e ≠ 0 →
    (valid P (f ^^^ e) = true ↔ ndata e = data e ∧ (P.addrCheck = true → naddr e = addr e))) ∧
  (∀ (P : Params) (f : Frame), valid P f = true →
    Nat.card {e : Frame // e ≠ 0 ∧ valid P (f ^^^ e) = true} =
      if P.addrCheck then 2 ^ 16 - 1 else 2 ^ 24 - 1)

/-- R107: with the address check every single-bit flip of a valid frame is detected; without it exactly the flips
of bits 16 to 31 are. -/
def Obligations.SingleBitFlipsOfAValidFrame : Prop :=
  ∀ (P : Params) (f : Frame) (k : Nat), valid P f = true → k < 32 →
    (P.addrCheck = true → valid P (f ^^^ (1#32 <<< k)) = false) ∧
    (P.addrCheck = false → 16 ≤ k → valid P (f ^^^ (1#32 <<< k)) = false) ∧
    (P.addrCheck = false → k < 16 → valid P (f ^^^ (1#32 <<< k)) = true)

/-! ### Arithmetic and the operations of LightController -/

/-- R150: both values of `LEVEL_FN` on 1..100: the formulas, and that they are the exact quotient's floor,
respectively its nearest integer (never a tie), with 65535 at 100. -/
def Obligations.LevelFunctionsAreFloorAndNearest : Prop :=
  ∀ s : Nat, 1 ≤ s → s ≤ 100 → ∀ t n : Nat,
    t = (levelOf .truncSat (BitVec.ofNat 7 s)).toNat → n = (levelOf .nearestSat (BitVec.ofNat 7 s)).toNat →
    t = min (s * 65536 / 100) 65535 ∧ n = min ((s * 65536 + 50) / 100) 65535 ∧
    (s < 100 → 100 * t ≤ 65536 * s ∧ 65536 * s < 100 * (t + 1) ∧
      200 * n < 131072 * s + 100 ∧ 131072 * s < 200 * n + 100) ∧
    (s = 100 → t = 65535 ∧ n = 65535)

/-- Both values of `LEVEL_FN` are strictly increasing on 1..100, so LEVEL determines STEP (10_state.md R29, second
half; 95_test_vectors.md §2.5). -/
def Obligations.LevelDeterminesStep : Prop :=
  ∀ (fn : LevelFn) (a b : BitVec 7), 1 ≤ a.toNat → a.toNat < b.toNat → b.toNat ≤ 100 →
    (levelOf fn a).toNat < (levelOf fn b).toNat

/-- R151: the sum lies in 0..101 for a legal STEP; adjustStep adds exactly and clamps to 1..100. -/
def Obligations.AdjustStepClampsAndNeverWraps : Prop :=
  ∀ (s : State) (delta : Int), (delta = 1 ∨ delta = -1) →
    (1 ≤ s.stepReg.toNat ∧ s.stepReg.toNat ≤ 100 →
      0 ≤ (s.stepReg.toNat : Int) + delta ∧ (s.stepReg.toNat : Int) + delta ≤ 101) ∧
    ∃ t, adjustStep delta s = .next t ∧
      (t.stepReg.toNat : Int) = max 1 (min 100 ((s.stepReg.toNat : Int) + delta)) ∧
      t = { s with stepReg := t.stepReg, level := t.level, events := t.events, trace := t.trace }

/-- R152, R153: what turnOn and turnOff write and emit; STEP and LEVEL are kept; a repeat leaves the same
registers and emits its events again. -/
def Obligations.SwitchOperationsKeepBrightness : Prop :=
  ∀ s : State,
    turnOn s = { s with isOn := true, events := s.events ++ [.dutyWrite s.level, .enableWrite true],
                        trace := s.trace ++ [.dutyWrite s.level, .enableWrite true] } ∧
    turnOff s = { s with isOn := false, events := s.events ++ [.enableWrite false],
                         trace := s.trace ++ [.enableWrite false] } ∧
    (turnOn (turnOn s)).light = (turnOn s).light ∧ (turnOff (turnOff s)).light = (turnOff s).light

/-- R154, R155: what setPercent and adjustStep write and emit within their contracts. -/
def Obligations.BrightnessOperationsWriteStepAndLevel : Prop :=
  (∀ (s : State) (p : BitVec 7), p ∈ [10, 20, 30, 40, 50, 60, 70, 80, 90, 100] →
    setPercent p s = .next { s with
      stepReg := p, level := levelOf s.params.levelFn p,
      events := s.events ++ [.dutyWrite (levelOf s.params.levelFn p)],
      trace := s.trace ++ [.dutyWrite (levelOf s.params.levelFn p)] }) ∧
  (∀ (s : State) (delta : Int) (st : BitVec 7), (delta = 1 ∨ delta = -1) →
    (st.toNat : Int) = max 1 (min 100 ((s.stepReg.toNat : Int) + delta)) →
    adjustStep delta s = .next { s with
      stepReg := st, level := levelOf s.params.levelFn st,
      events := s.events ++ [.dutyWrite (levelOf s.params.levelFn st)],
      trace := s.trace ++ [.dutyWrite (levelOf s.params.levelFn st)] })

/-- R215: the operations refuse arguments outside their contract, and no instruction reaches such a call: every
instruction completes. -/
def Obligations.OperationsRefuseArgumentsOutsideTheirContract : Prop :=
  (∀ (s : State) (p : BitVec 7), p ∉ [10, 20, 30, 40, 50, 60, 70, 80, 90, 100] →
    setPercent p s = .refused .percentOutOfContract) ∧
  (∀ (s : State) (delta : Int), delta ≠ 1 → delta ≠ -1 → adjustStep delta s = .refused .deltaOutOfContract) ∧
  (∀ (i : Instr) (s : State), ∃ t, exec i s = .next t)

/-! ### Commands: result, frame and completion of each instruction -/

/-- R160: TURNON's encoding, registers and events; nothing else changes. -/
def Obligations.TurnOnResult : Prop :=
  encode .turnOn = 0xFC03EF00#32 ∧ lookup 0xFC03EF00#32 = .turnOn ∧
  ∀ s : State, exec .turnOn s = .next { s with
    isOn := true
    events := s.events ++ [.dutyWrite s.level, .enableWrite true, .accept .turnOn]
    trace := s.trace ++ [.dutyWrite s.level, .enableWrite true, .accept .turnOn] }

/-- R161: TURNOFF's encoding, registers and events; nothing else changes. -/
def Obligations.TurnOffResult : Prop :=
  encode .turnOff = 0xFD02EF00#32 ∧ lookup 0xFD02EF00#32 = .turnOff ∧
  ∀ s : State, exec .turnOff s = .next { s with
    isOn := false
    events := s.events ++ [.enableWrite false, .accept .turnOff]
    trace := s.trace ++ [.enableWrite false, .accept .turnOff] }

/-- R162: BRUP's encoding, registers and events, for every STEP; STEP 100 stays 100; nothing else changes. -/
def Obligations.BrightnessUpResult : Prop :=
  encode .brUp = 0xFF00EF00#32 ∧ lookup 0xFF00EF00#32 = .brUp ∧
  ∀ (s : State) (st : BitVec 7), st.toNat = min (s.stepReg.toNat + 1) 100 →
    exec .brUp s = .next { s with
      stepReg := st
      level := levelOf s.params.levelFn st
      events := s.events ++ [.dutyWrite (levelOf s.params.levelFn st), .accept .brightnessUp]
      trace := s.trace ++ [.dutyWrite (levelOf s.params.levelFn st), .accept .brightnessUp] }

/-- R163: BRDOWN's encoding, registers and events, for every STEP; STEP 1 stays 1; nothing else changes. -/
def Obligations.BrightnessDownResult : Prop :=
  encode .brDown = 0xFE01EF00#32 ∧ lookup 0xFE01EF00#32 = .brDown ∧
  ∀ (s : State) (st : BitVec 7), st.toNat = min (max (s.stepReg.toNat - 1) 1) 100 →
    exec .brDown s = .next { s with
      stepReg := st
      level := levelOf s.params.levelFn st
      events := s.events ++ [.dutyWrite (levelOf s.params.levelFn st), .accept .brightnessDown]
      trace := s.trace ++ [.dutyWrite (levelOf s.params.levelFn st), .accept .brightnessDown] }

/-- R164 to R173: for each SETPCT row its encoding, its STEP, its LEVEL under both values of `LEVEL_FN` and its
events; nothing else changes. -/
def Obligations.SetPercentResults : Prop :=
  ∀ row ∈ ([(0xFB04EF00#32, .setPct100, 100#7, 65535#16, 65535#16), (0xF708EF00#32, .setPct90, 90#7, 58982#16, 58982#16),
            (0xF30CEF00#32, .setPct80, 80#7, 52428#16, 52429#16), (0xEF10EF00#32, .setPct70, 70#7, 45875#16, 45875#16),
            (0xEB14EF00#32, .setPct60, 60#7, 39321#16, 39322#16), (0xFA05EF00#32, .setPct50, 50#7, 32768#16, 32768#16),
            (0xF609EF00#32, .setPct40, 40#7, 26214#16, 26214#16), (0xF20DEF00#32, .setPct30, 30#7, 19660#16, 19661#16),
            (0xEE11EF00#32, .setPct20, 20#7, 13107#16, 13107#16), (0xEA15EF00#32, .setPct10, 10#7, 6553#16, 6554#16)] :
            List (Frame × Instr × BitVec 7 × BitVec 16 × BitVec 16)),
    encode row.2.1 = row.1 ∧ lookup row.1 = row.2.1 ∧
    ∀ (s : State) (lv : BitVec 16),
      lv = (match s.params.levelFn with | .truncSat => row.2.2.2.1 | .nearestSat => row.2.2.2.2) →
      exec row.2.1 s = .next { s with
        stepReg := row.2.2.1
        level := lv
        events := s.events ++ [.dutyWrite lv, .accept (.setPercent row.2.2.1)]
        trace := s.trace ++ [.dutyWrite lv, .accept (.setPercent row.2.2.1)] }

/-- R174: an invalid frame is the INVALID instruction, whose whole effect is its event; 0x00000000 and 0xDEADBEEF
are such frames under both values of `P_ADDR_CHECK`, and with it true so is every literal. -/
def Obligations.InvalidFrameResult : Prop :=
  (∀ (P : Params) (f : Frame), valid P f = false → decode P f = .invalid f) ∧
  (∀ P : Params, valid P 0x00000000#32 = false ∧ valid P 0xDEADBEEF#32 = false) ∧
  (∀ P : Params, P.addrCheck = true → ∀ row ∈ literalTable, valid P row.1 = false) ∧
  (∀ (s : State) (f : Frame), exec (.invalid f) s = .next { s with
    events := s.events ++ [.invalidFrame f]
    trace := s.trace ++ [.invalidFrame f] })

/-- R175: a valid frame outside the table is the UNKNOWN instruction, whose whole effect is its event; with
`P_ADDR_CHECK` true every valid frame is one. -/
def Obligations.UnknownFrameResult : Prop :=
  (∀ (P : Params) (f : Frame), valid P f = true → lookup f = .unknown f → decode P f = .unknown f) ∧
  (∀ (P : Params) (f : Frame), P.addrCheck = true → valid P f = true → decode P f = .unknown f) ∧
  (∀ (s : State) (f : Frame), exec (.unknown f) s = .next { s with
    events := s.events ++ [.unknownCommand f]
    trace := s.trace ++ [.unknownCommand f] })

/-! ### The step -/

/-- Where the next input is a frame and the state is well-formed, a step consumes the input, begins an empty event
list and is exec of the decoded instruction (42_brightness_commands.md §3). -/
def Obligations.StepRunsTheDecodedInstruction : Prop :=
  ∀ (s : State) (f : Frame) (rest : List Input), s.wellFormed = true → s.inputs = .frame f :: rest →
    step s = exec (decode s.params f) { s with inputs := rest, events := [] }

/-- R158: with `none` presented a step changes no state and emits no event, and `evt_kind` is NONE. -/
def Obligations.IdleStepChangesNothing : Prop :=
  ∀ (s : State) (rest : List Input), s.wellFormed = true → s.inputs = .idle :: rest →
    ∃ t, step s = .next t ∧ t = { s with inputs := rest, events := [] } ∧ evtKind t = 0

/-- The model's choice (log 2): when no input is left, `none` is presented. -/
def Obligations.ExhaustedInputsPresentNothing : Prop :=
  ∀ s : State, s.wellFormed = true → s.inputs = [] → step s = .next { s with events := [] }

/-- R230: the registers after Reset(P), with the LEVEL of both values of `LEVEL_FN`; the reset state is that of the
spec's default parameters. -/
def Obligations.ResetSetsEveryRegister : Prop :=
  (∀ P : Params, (State.resetWith P).stepReg = 10 ∧ (State.resetWith P).isOn = P.resetIsOn ∧
    (P.levelFn = .truncSat → (State.resetWith P).level = 6553) ∧
    (P.levelFn = .nearestSat → (State.resetWith P).level = 6554)) ∧
  State.reset.isOn = false ∧ State.reset.stepReg = 10 ∧ State.reset.level = 6553

/-- A reset step applies Reset(P) to ANY state, well-formed or not, consumes no frame, emits no event, and the ports
show the reset registers (70_reset_and_hazards.md §1). That the trace restarts is the model's choice (DESIGN CHOICE,
log 5; a run begins with a reset, 60_exceptions.md §4), and so is P as a field that a reset step keeps (log 1). -/
def Obligations.ResetStepFromAnyState : Prop :=
  ∀ (s : State) (rest : List Input), s.inputs = .reset :: rest →
    ∃ t, step s = .next t ∧ t = (State.resetWith s.params).withInputs rest ∧ t.light = resetLight s.params ∧
      t.events = [] ∧ t.trace = [] ∧ duty t = levelOf s.params.levelFn 10 ∧ outEn t = s.params.resetIsOn ∧
      dutyWr t = false ∧ enWr t = false ∧ evtKind t = 0

/-- R25: reset and every step leave a legal STEP; a state with an illegal one is not well-formed and is refused
as a start state (unless the input is a reset, log 6). -/
def Obligations.IllegalStepNeverArisesAndIsRefused : Prop :=
  (∀ P : Params, 1 ≤ (State.resetWith P).stepReg.toNat ∧ (State.resetWith P).stepReg.toNat ≤ 100) ∧
  (∀ s t : State, step s = .next t → 1 ≤ t.stepReg.toNat ∧ t.stepReg.toNat ≤ 100) ∧
  (∀ s : State, ¬(1 ≤ s.stepReg.toNat ∧ s.stepReg.toNat ≤ 100) →
    s.wellFormed = false ∧ (pendingInput s ≠ .reset → step s = .refused .illFormedStart))

/-- The invariant of 10_state.md R27: LEVEL is `LEVEL_FN(STEP)` in every well-formed state and after every step. That
a state that breaks it is refused as a start state, unless the input is a reset, is U11 of 93_implementation_defined.md
and DEDUCED (log 6): R27 itself says only that such a state is not well-formed. -/
def Obligations.LevelIsConsistentWithStep : Prop :=
  (∀ s : State, s.wellFormed = true → s.level = levelOf s.params.levelFn s.stepReg) ∧
  (∀ s t : State, step s = .next t → t.level = levelOf t.params.levelFn t.stepReg) ∧
  (∀ s : State, s.level ≠ levelOf s.params.levelFn s.stepReg → pendingInput s ≠ .reset →
    step s = .refused .illFormedStart)

/-- R178, R214: from every well-formed state and for every input a step completes, in a well-formed state. -/
def Obligations.EveryStepCompletesWellFormed : Prop :=
  ∀ s : State, s.wellFormed = true → ∃ t, step s = .next t ∧ t.wellFormed = true

/-- The invariant holds at reset, for all parameters (70_reset_and_hazards.md §1). -/
def Obligations.ResetIsWellFormed : Prop :=
  State.reset.wellFormed = true ∧ ∀ P : Params, (State.resetWith P).wellFormed = true

/-- R157: for every well-formed state and every `in`, the machine's step is the spec's function `Step(P, S, in)`:
the same registers and the same event list; the parameters stay and the input is consumed. -/
def Obligations.StepRefinesTheSpecFunction : Prop :=
  ∀ (s : State) (inp : Option Frame) (rest : List Input), s.wellFormed = true → s.inputs = inputOf inp :: rest →
    ∃ t, step s = .next t ∧ (t.light, t.events) = specStep s.params s.light inp ∧
      t.params = s.params ∧ t.inputs = rest ∧ t.trace = s.trace ++ t.events

/-- R216: the observation of a run, a reset followed by any finite sequence of inputs, is that of the spec's
function: the final registers and the concatenated events. -/
def Obligations.RunObservationIsThatOfTheSpec : Prop :=
  ∀ (P : Params) (ins : List (Option Frame)),
    ∃ t, runInputs (ins.map inputOf) (State.resetWith P) = .next t ∧
      (t.light, t.trace) = specRun P ins (resetLight P, [])

/-- R63: every input sequence, resets among it, runs to its end from every well-formed state, in a well-formed
state. -/
def Obligations.EveryInputSequenceRuns : Prop :=
  ∀ (ins : List Input) (s : State), s.wellFormed = true →
    ∃ t, runInputs ins s = .next t ∧ t.wellFormed = true ∧ t.params = s.params

/-- A run of a ++ b is the run of b from where the run of a left the machine (20_memory.md §4). -/
def Obligations.RunsComposeInOrder : Prop :=
  ∀ (a b : List Input) (s : State), s.wellFormed = true →
    ∃ m, runInputs a s = .next m ∧ runInputs (a ++ b) s = runInputs b m

/-- R234: frames separated by idle steps are handled exactly as back-to-back frames: the same registers and the
same trace. -/
def Obligations.IdleStepsMakeNoDifference : Prop :=
  ∀ (ins : List Input) (s : State), s.wellFormed = true →
    ∃ t u, runInputs ins s = .next t ∧ runInputs (ins.filter (fun i => i ≠ .idle)) s = .next u ∧
      t.light = u.light ∧ t.trace = u.trace ∧ t.params = u.params

/-- A step consumes exactly the next input (20_memory.md §3) and never writes the parameters: P is an argument of
`Step` and no state (R14 of 00_scope.md §4, R31 of 10_state.md §2), and that it is a field of State which no step, reset
included, writes is the model's (DESIGN CHOICE, log 1). The trace of a step without reset is the trace before it and the
step's events (10_state.md §3; kept in State by log 5). -/
def Obligations.StepConsumesOneInputAndKeepsParameters : Prop :=
  ∀ s t : State, step s = .next t →
    t.inputs = s.inputs.tail ∧ t.params = s.params ∧
    (pendingInput s ≠ .reset → t.trace = s.trace ++ t.events)

/-- The host's placing of a table word: the next step runs what `decodeTableWord` reads (log 4, the model's
choice). -/
def Obligations.FetchWordRunsTheTableInstruction : Prop :=
  ∀ (s : State) (nbits w : Nat), s.wellFormed = true → nbits ≤ 32 →
    ∃ i, decodeTableWord nbits w = some i ∧
      step (s.withFetchWord nbits w) =
        exec i { s with events := [], params := { s.params with addrCheck := tableAddrCheck (tableFrame nbits w) } }

/-! ### Laws of the whole machine -/

/-- R23: only TURNON and TURNOFF change IS_ON, to 1 and to 0; both values are legal; reset gives `RESET_IS_ON`. -/
def Obligations.OnlySwitchCommandsWriteIsOn : Prop :=
  (∀ P : Params, (State.resetWith P).isOn = P.resetIsOn) ∧
  (∀ (s : State) (b : Bool), ({ s with isOn := b } : State).wellFormed = s.wellFormed) ∧
  (∀ s t : State, step s = .next t → pendingInput s ≠ .reset → t.isOn ≠ s.isOn →
    (pendingInput s = .frame 0xFC03EF00#32 ∧ t.isOn = true) ∨
    (pendingInput s = .frame 0xFD02EF00#32 ∧ t.isOn = false))

/-- R24, R26: without a reset, STEP or LEVEL changes only by an adjustment or a SETPCT, and LEVEL
is then `LEVEL_FN` of the new STEP; STEP is 1..100 in every well-formed state; reset sets STEP to 10 and LEVEL to
`LEVEL_FN(RESET_STEP)`. -/
def Obligations.OnlyBrightnessCommandsWriteStepAndLevel : Prop :=
  (∀ P : Params, (State.resetWith P).stepReg = 10 ∧ (State.resetWith P).level = levelOf P.levelFn 10) ∧
  (∀ s : State, s.wellFormed = true → 1 ≤ s.stepReg.toNat ∧ s.stepReg.toNat ≤ 100) ∧
  (∀ s t : State, step s = .next t → pendingInput s ≠ .reset → (t.stepReg ≠ s.stepReg ∨ t.level ≠ s.level) →
    (∃ f, pendingInput s = .frame f ∧
      decode s.params f ∈ [.brUp, .brDown, .setPct100, .setPct90, .setPct80, .setPct70, .setPct60, .setPct50,
        .setPct40, .setPct30, .setPct20, .setPct10]) ∧
    t.level = levelOf s.params.levelFn t.stepReg)

/-- R28: IS_ON has no influence: two runs over the same inputs whose start states differ in IS_ON alone end in
states that differ at most in IS_ON, and TURNON and TURNOFF leave STEP and LEVEL. -/
def Obligations.IsOnNeverInfluencesBrightness : Prop :=
  (∀ (ins : List Input) (s : State) (b : Bool), s.wellFormed = true →
    ∃ t u, runInputs ins s = .next t ∧ runInputs ins { s with isOn := b } = .next u ∧
      u = { t with isOn := u.isOn }) ∧
  (∀ (i : Instr) (s t : State), (i = .turnOn ∨ i = .turnOff) → exec i s = .next t →
    t.stepReg = s.stepReg ∧ t.level = s.level)

/-- R41, R58, R212: the event list of a step on a frame is output calls followed by exactly one diagnostic event; an
idle step has none; the trace grows by the step's list. -/
def Obligations.EventListEndsInOneDiagnostic : Prop :=
  ∀ s t : State, step s = .next t → pendingInput s ≠ .reset →
    t.trace = s.trace ++ t.events ∧
    (∀ f, pendingInput s = .frame f →
      ∃ (calls : List Event) (d : Event), t.events = calls ++ [d] ∧ d.isDiagnostic = true ∧
        (∀ e ∈ calls, (∃ v, e = .dutyWrite v) ∨ ∃ b, e = .enableWrite b) ∧
        (decode s.params f = .invalid f → d = .invalidFrame f) ∧
        (decode s.params f = .unknown f → d = .unknownCommand f) ∧
        (decode s.params f ≠ .invalid f → decode s.params f ≠ .unknown f → ∃ c, specLookup f = some c ∧ d = .accept c)) ∧
    (pendingInput s = .idle → t.events = [])

/-- R34, R35: the output ports show LEVEL and IS_ON, the strobes are asserted exactly when the step emits a call,
and every call carries the value after the step. -/
def Obligations.OutputCallsCarryTheNewRegisters : Prop :=
  ∀ s t : State, step s = .next t →
    duty t = t.level ∧ outEn t = t.isOn ∧
    (dutyWr t = true ↔ ∃ v, Event.dutyWrite v ∈ t.events) ∧ (enWr t = true ↔ ∃ b, Event.enableWrite b ∈ t.events) ∧
    (∀ v, Event.dutyWrite v ∈ t.events → v = t.level) ∧ (∀ b, Event.enableWrite b ∈ t.events → b = t.isOn)

/-- R37, R125, with the kinds of 60_exceptions.md §1: the diagnostic ports of every step, by outcome, with the codes of the commands. -/
def Obligations.DiagnosticPortsReportTheOutcome : Prop :=
  (∀ s t : State, step s = .next t →
    (∀ f, pendingInput s = .frame f →
      (valid s.params f = false → evtKind t = 2 ∧ evtFrame t = f ∧ evtCmdKind t = 0 ∧ evtCmdPct t = 0) ∧
      (valid s.params f = true → specLookup f = none →
        evtKind t = 3 ∧ evtFrame t = f ∧ evtCmdKind t = 0 ∧ evtCmdPct t = 0) ∧
      (∀ c, valid s.params f = true → specLookup f = some c →
        evtKind t = 1 ∧ evtFrame t = 0 ∧ evtCmdKind t = cmdKind c ∧ evtCmdPct t = cmdPct c)) ∧
    ((∀ f, pendingInput s ≠ .frame f) → evtKind t = 0 ∧ evtFrame t = 0 ∧ evtCmdKind t = 0 ∧ evtCmdPct t = 0)) ∧
  (cmdKind .turnOn = 0 ∧ cmdKind .turnOff = 1 ∧ cmdKind .brightnessUp = 2 ∧ cmdKind .brightnessDown = 3 ∧
    cmdPct .turnOn = 0 ∧ cmdPct .turnOff = 0 ∧ cmdPct .brightnessUp = 0 ∧ cmdPct .brightnessDown = 0 ∧
    ∀ p, cmdKind (.setPercent p) = 4 ∧ cmdPct (.setPercent p) = p) ∧
  (∀ s t : State, step s = .next t → evtCmdKind t ≠ 5 ∧ evtCmdKind t ≠ 6 ∧ evtCmdKind t ≠ 7)

/-- R202, R203: an invalid or unknown frame writes no register and makes no output call; the frame is reported for
that step. -/
def Obligations.DiscardedFramesLeaveTheLightUnchanged : Prop :=
  ∀ (s : State) (f : Frame) (rest : List Input), s.wellFormed = true → s.inputs = .frame f :: rest →
    (valid s.params f = false → ∃ t, step s = .next t ∧
      t = { s with inputs := rest, events := [.invalidFrame f], trace := s.trace ++ [.invalidFrame f] } ∧
      evtFrame t = f ∧ dutyWr t = false ∧ enWr t = false ∧ fvAddr s.params f = 0x00#8 ∧ fvData s.params f = 0x00#8) ∧
    (valid s.params f = true → specLookup f = none → ∃ t, step s = .next t ∧
      t = { s with inputs := rest, events := [.unknownCommand f], trace := s.trace ++ [.unknownCommand f] } ∧
      evtFrame t = f ∧ dutyWr t = false ∧ enWr t = false)

/-- R126: an accepted SetPercent carries one of the ten values, and each of the ten has a literal. -/
def Obligations.AcceptedPercentsAreTheTenValues : Prop :=
  (∀ (s t : State) (p : BitVec 7), step s = .next t → Event.accept (.setPercent p) ∈ t.events →
    p ∈ [10, 20, 30, 40, 50, 60, 70, 80, 90, 100]) ∧
  (∀ p ∈ ([10, 20, 30, 40, 50, 60, 70, 80, 90, 100] : List (BitVec 7)), ∃ f, specLookup f = some (.setPercent p)) ∧
  (∀ (f : Frame) (p : BitVec 7), specLookup f = some (.setPercent p) →
    p ∈ [10, 20, 30, 40, 50, 60, 70, 80, 90, 100])

/-- R176: k executed BRUP commands give min(s + k, 100), k executed BRDOWN commands max(s - k, 1); from
`P_ADDR_CHECK = false`, under which the literals execute. -/
def Obligations.RepeatedAdjustmentsConvergeAndStay : Prop :=
  ∀ (s : State) (k : Nat), s.wellFormed = true → s.params.addrCheck = false →
    (∃ t, runInputs (List.replicate k (.frame 0xFF00EF00#32)) s = .next t ∧
      t.stepReg.toNat = min (s.stepReg.toNat + k) 100 ∧ (100 - s.stepReg.toNat ≤ k → t.stepReg = 100)) ∧
    (∃ t, runInputs (List.replicate k (.frame 0xFE01EF00#32)) s = .next t ∧
      t.stepReg.toNat = max (s.stepReg.toNat - k) 1 ∧ (s.stepReg.toNat - 1 ≤ k → t.stepReg = 1))

/-- R177: a sequence of executed TURNON and TURNOFF commands leaves STEP and LEVEL, and IS_ON is the last command's
value, or unchanged if there is none. -/
def Obligations.SwitchSequencesKeepStepAndLevel : Prop :=
  ∀ (s : State) (ons : List Bool), s.wellFormed = true → s.params.addrCheck = false →
    ∃ t, runInputs (ons.map switchInput) s = .next t ∧ t.stepReg = s.stepReg ∧ t.level = s.level ∧
      t.isOn = ons.getLastD s.isOn
end

