-- ==== Sys2Proof/Laws/Decode.lean ====
section
/-! SUPPORT. The lemmas of validation, lookup and decoding. -/

namespace Sys2Proof.Machine

/-- A frame outside the table looks up to UNKNOWN. -/
theorem lookup_of_not_literal {f : Frame} (h : isLiteral f = false) : lookup f = .unknown f := by
  have hn : literalTable.find? (fun row => row.1 == f) = none := by
    rw [List.find?_eq_none]
    intro row hr hb
    rw [isLiteral, List.any_eq_false] at h
    exact h row hr hb
  simp [lookup, hn]

/-- A table row's literal looks up to the row's instruction. -/
theorem lookup_of_row {row : Frame × Instr} (h : row ∈ literalTable) : lookup row.1 = row.2 := by
  revert row; decide

/-- A row's literal is its instruction's encoding. -/
theorem encode_of_row {row : Frame × Instr} (h : row ∈ literalTable) : encode row.2 = row.1 := by
  revert row; decide

/-- Every literal has the data relation and lacks the address relation (30_encoding.md R79). -/
theorem literal_checks {row : Frame × Instr} (h : row ∈ literalTable) :
    dataOk row.1 = true ∧ addrOk row.1 = false := by
  revert row; decide

/-- A literal is valid exactly when the address pair is not checked. -/
theorem valid_literal (P : Params) {row : Frame × Instr} (h : row ∈ literalTable) :
    valid P row.1 = !P.addrCheck := by
  simp [valid, literal_checks h]

end Sys2Proof.Machine
end

