-- ==== Sys2Proof/Laws/State.lean ====
section
/-! SUPPORT. What each named update of the state leaves in each field, so that no proof unfolds a record update. -/

namespace Sys2Proof.Machine

@[simp] theorem emit_isOn (e : Event) (s : State) : (emit e s).isOn = s.isOn := rfl
@[simp] theorem emit_stepReg (e : Event) (s : State) : (emit e s).stepReg = s.stepReg := rfl
@[simp] theorem emit_level (e : Event) (s : State) : (emit e s).level = s.level := rfl
@[simp] theorem emit_params (e : Event) (s : State) : (emit e s).params = s.params := rfl
@[simp] theorem emit_inputs (e : Event) (s : State) : (emit e s).inputs = s.inputs := rfl
@[simp] theorem emit_events (e : Event) (s : State) : (emit e s).events = s.events ++ [e] := rfl
@[simp] theorem emit_trace (e : Event) (s : State) : (emit e s).trace = s.trace ++ [e] := rfl

@[simp] theorem turnOn_isOn (s : State) : (turnOn s).isOn = true := rfl
@[simp] theorem turnOn_stepReg (s : State) : (turnOn s).stepReg = s.stepReg := rfl
@[simp] theorem turnOn_level (s : State) : (turnOn s).level = s.level := rfl
@[simp] theorem turnOn_params (s : State) : (turnOn s).params = s.params := rfl
@[simp] theorem turnOn_inputs (s : State) : (turnOn s).inputs = s.inputs := rfl
@[simp] theorem turnOn_events (s : State) : (turnOn s).events = s.events ++ [.dutyWrite s.level] ++ [.enableWrite true] := rfl
@[simp] theorem turnOn_trace (s : State) : (turnOn s).trace = s.trace ++ [.dutyWrite s.level] ++ [.enableWrite true] := rfl

@[simp] theorem turnOff_isOn (s : State) : (turnOff s).isOn = false := rfl
@[simp] theorem turnOff_stepReg (s : State) : (turnOff s).stepReg = s.stepReg := rfl
@[simp] theorem turnOff_level (s : State) : (turnOff s).level = s.level := rfl
@[simp] theorem turnOff_params (s : State) : (turnOff s).params = s.params := rfl
@[simp] theorem turnOff_inputs (s : State) : (turnOff s).inputs = s.inputs := rfl
@[simp] theorem turnOff_events (s : State) : (turnOff s).events = s.events ++ [.enableWrite false] := rfl
@[simp] theorem turnOff_trace (s : State) : (turnOff s).trace = s.trace ++ [.enableWrite false] := rfl

@[simp] theorem writeStep_isOn (st : BitVec 7) (s : State) : (writeStep st s).isOn = s.isOn := rfl
@[simp] theorem writeStep_stepReg (st : BitVec 7) (s : State) : (writeStep st s).stepReg = st := rfl
@[simp] theorem writeStep_level (st : BitVec 7) (s : State) : (writeStep st s).level = levelOf s.params.levelFn st := rfl
@[simp] theorem writeStep_params (st : BitVec 7) (s : State) : (writeStep st s).params = s.params := rfl
@[simp] theorem writeStep_inputs (st : BitVec 7) (s : State) : (writeStep st s).inputs = s.inputs := rfl
@[simp] theorem writeStep_events (st : BitVec 7) (s : State) : (writeStep st s).events = s.events ++ [.dutyWrite (levelOf s.params.levelFn st)] := rfl
@[simp] theorem writeStep_trace (st : BitVec 7) (s : State) : (writeStep st s).trace = s.trace ++ [.dutyWrite (levelOf s.params.levelFn st)] := rfl

@[simp] theorem takeInput_isOn (s : State) : (takeInput s).isOn = s.isOn := rfl
@[simp] theorem takeInput_stepReg (s : State) : (takeInput s).stepReg = s.stepReg := rfl
@[simp] theorem takeInput_level (s : State) : (takeInput s).level = s.level := rfl
@[simp] theorem takeInput_params (s : State) : (takeInput s).params = s.params := rfl
@[simp] theorem takeInput_inputs (s : State) : (takeInput s).inputs = s.inputs.tail := rfl
@[simp] theorem takeInput_events (s : State) : (takeInput s).events = [] := rfl
@[simp] theorem takeInput_trace (s : State) : (takeInput s).trace = s.trace := rfl

@[simp] theorem applyReset_isOn (s : State) : (applyReset s).isOn = s.params.resetIsOn := rfl
@[simp] theorem applyReset_stepReg (s : State) : (applyReset s).stepReg = Config.resetStep := rfl
@[simp] theorem applyReset_level (s : State) : (applyReset s).level = levelOf s.params.levelFn Config.resetStep := rfl
@[simp] theorem applyReset_params (s : State) : (applyReset s).params = s.params := rfl
@[simp] theorem applyReset_inputs (s : State) : (applyReset s).inputs = s.inputs := rfl
@[simp] theorem applyReset_events (s : State) : (applyReset s).events = [] := rfl
@[simp] theorem applyReset_trace (s : State) : (applyReset s).trace = [] := rfl

@[simp] theorem withInputs_isOn (ins : List Input) (s : State) : (s.withInputs ins).isOn = s.isOn := rfl
@[simp] theorem withInputs_stepReg (ins : List Input) (s : State) : (s.withInputs ins).stepReg = s.stepReg := rfl
@[simp] theorem withInputs_level (ins : List Input) (s : State) : (s.withInputs ins).level = s.level := rfl
@[simp] theorem withInputs_params (ins : List Input) (s : State) : (s.withInputs ins).params = s.params := rfl
@[simp] theorem withInputs_inputs (ins : List Input) (s : State) : (s.withInputs ins).inputs = ins := rfl
@[simp] theorem withInputs_events (ins : List Input) (s : State) : (s.withInputs ins).events = s.events := rfl
@[simp] theorem withInputs_trace (ins : List Input) (s : State) : (s.withInputs ins).trace = s.trace := rfl

@[simp] theorem emit_wellFormed (e : Event) (s : State) : (emit e s).wellFormed = s.wellFormed := rfl
@[simp] theorem turnOn_wellFormed (s : State) : (turnOn s).wellFormed = s.wellFormed := rfl
@[simp] theorem turnOff_wellFormed (s : State) : (turnOff s).wellFormed = s.wellFormed := rfl
@[simp] theorem takeInput_wellFormed (s : State) : (takeInput s).wellFormed = s.wellFormed := rfl
@[simp] theorem withInputs_wellFormed (ins : List Input) (s : State) :
    (s.withInputs ins).wellFormed = s.wellFormed := rfl

end Sys2Proof.Machine
end

