-- ==== Sys2Proof/Laws/Ops.lean ====
section
/-! SUPPORT. One lemma per shared operation that says everything it can do, one per instruction that says what its
meaning answers, and the inversion of exec and of step. Cite these instead of unfolding. -/

namespace Sys2Proof.Machine

theorem wellFormed_iff (s : State) :
    s.wellFormed = true ↔
      1 ≤ s.stepReg.toNat ∧ s.stepReg.toNat ≤ 100 ∧ s.level = levelOf s.params.levelFn s.stepReg := by
  simp [State.wellFormed, and_assoc]

theorem setPercent_eq (p : BitVec 7) (s : State) :
    setPercent p s = if p ∈ percentSet then .next (writeStep p s) else .refused .percentOutOfContract := by
  simp [setPercent]

theorem adjustStep_up (s : State) : adjustStep 1 s = .next (writeStep (adjustedStep s.stepReg 1) s) := rfl

theorem adjustStep_down (s : State) :
    adjustStep (-1) s = .next (writeStep (adjustedStep s.stepReg (-1)) s) := rfl

theorem adjustStep_out_of_contract {delta : Int} (h1 : delta ≠ 1) (h2 : delta ≠ -1) (s : State) :
    adjustStep delta s = .refused .deltaOutOfContract := by
  simp [adjustStep, deltaInContract, h1, h2]

theorem clamp_bounds (x : Int) : 1 ≤ clamp x 1 100 ∧ clamp x 1 100 ≤ 100 := by
  unfold clamp; split <;> [omega; (split <;> omega)]

theorem adjustedStep_toNat (st : BitVec 7) (delta : Int) :
    ((adjustedStep st delta).toNat : Int) = clamp (st.toNat + delta) 1 100 := by
  have h := clamp_bounds (st.toNat + delta)
  simp only [adjustedStep, BitVec.toNat_ofInt]
  omega

theorem adjustedStep_legal (st : BitVec 7) (delta : Int) :
    1 ≤ (adjustedStep st delta).toNat ∧ (adjustedStep st delta).toNat ≤ 100 := by
  have h := clamp_bounds (st.toNat + delta)
  have e := adjustedStep_toNat st delta
  omega

theorem percentSet_legal {p : BitVec 7} (h : p ∈ percentSet) : 1 ≤ p.toNat ∧ p.toNat ≤ 100 := by
  revert p; decide

theorem writeStep_wellFormed {st : BitVec 7} (h : 1 ≤ st.toNat ∧ st.toNat ≤ 100) (s : State) :
    (writeStep st s).wellFormed = true := by
  simp [wellFormed_iff, h]

theorem applyReset_wellFormed (s : State) : (applyReset s).wellFormed = true := by
  simp [wellFormed_iff, Config.resetStep]

theorem exec_invalid (f : Frame) (s : State) : exec (.invalid f) s = .next (emit (.invalidFrame f) s) := rfl

theorem exec_unknown (f : Frame) (s : State) : exec (.unknown f) s = .next (emit (.unknownCommand f) s) := rfl

theorem exec_turnOn (s : State) : exec .turnOn s = .next (emit (.accept .turnOn) (turnOn s)) := rfl

theorem exec_turnOff (s : State) : exec .turnOff s = .next (emit (.accept .turnOff) (turnOff s)) := rfl

theorem exec_brUp (s : State) :
    exec .brUp s = .next (emit (.accept .brightnessUp) (writeStep (adjustedStep s.stepReg 1) s)) := rfl

theorem exec_brDown (s : State) :
    exec .brDown s = .next (emit (.accept .brightnessDown) (writeStep (adjustedStep s.stepReg (-1)) s)) := rfl

/-- The percent of a SETPCT instruction. -/
def percentOf : Instr → Option (BitVec 7)
  | .setPct100 => some 100
  | .setPct90 => some 90
  | .setPct80 => some 80
  | .setPct70 => some 70
  | .setPct60 => some 60
  | .setPct50 => some 50
  | .setPct40 => some 40
  | .setPct30 => some 30
  | .setPct20 => some 20
  | .setPct10 => some 10
  | .invalid _ | .unknown _ | .turnOn | .turnOff | .brUp | .brDown => none

theorem percentOf_mem {i : Instr} {p : BitVec 7} (h : percentOf i = some p) : p ∈ percentSet := by
  cases i <;> simp [percentOf] at h <;> subst h <;> decide

theorem exec_setPct {i : Instr} {p : BitVec 7} (h : percentOf i = some p) (s : State) :
    exec i s = .next (emit (.accept (.setPercent p)) (writeStep p s)) := by
  cases i <;> simp [percentOf] at h <;> subst h <;> rfl

/-- Everything an instruction can do. -/
theorem exec_cases {i : Instr} {s : State} {r : Result} (h : exec i s = r) :
    (i = .turnOn ∧ r = .next (emit (.accept .turnOn) (turnOn s))) ∨
    (i = .turnOff ∧ r = .next (emit (.accept .turnOff) (turnOff s))) ∨
    (i = .brUp ∧ r = .next (emit (.accept .brightnessUp) (writeStep (adjustedStep s.stepReg 1) s))) ∨
    (i = .brDown ∧ r = .next (emit (.accept .brightnessDown) (writeStep (adjustedStep s.stepReg (-1)) s))) ∨
    (∃ p, percentOf i = some p ∧ r = .next (emit (.accept (.setPercent p)) (writeStep p s))) ∨
    (∃ f, i = .invalid f ∧ r = .next (emit (.invalidFrame f) s)) ∨
    (∃ f, i = .unknown f ∧ r = .next (emit (.unknownCommand f) s)) := by
  subst h
  cases i
  case invalid f => exact .inr (.inr (.inr (.inr (.inr (.inl ⟨f, rfl, rfl⟩)))))
  case unknown f => exact .inr (.inr (.inr (.inr (.inr (.inr ⟨f, rfl, rfl⟩)))))
  case turnOn => exact .inl ⟨rfl, rfl⟩
  case turnOff => exact .inr (.inl ⟨rfl, rfl⟩)
  case brUp => exact .inr (.inr (.inl ⟨rfl, rfl⟩))
  case brDown => exact .inr (.inr (.inr (.inl ⟨rfl, rfl⟩)))
  all_goals exact .inr (.inr (.inr (.inr (.inl ⟨_, rfl, rfl⟩))))

/-- Everything a step can do. -/
theorem step_cases {s : State} {r : Result} (h : step s = r) :
    (pendingInput s = .reset ∧ r = .next (applyReset (takeInput s))) ∨
    (pendingInput s = .idle ∧ s.wellFormed = true ∧ r = .next (takeInput s)) ∨
    (∃ f, pendingInput s = .frame f ∧ s.wellFormed = true ∧ exec (decode s.params f) (takeInput s) = r) ∨
    (pendingInput s ≠ .reset ∧ s.wellFormed = false ∧ r = .refused .illFormedStart) := by
  subst h
  unfold step stepOn
  rw [takeInput_wellFormed]
  cases hp : pendingInput s <;> cases hw : s.wellFormed <;> simp

end Sys2Proof.Machine
end

