-- ==== Sys2Proof/Laws/PerInstr.lean ====
section
/-! SUPPORT. A law of every instruction as syntax, one lemma per constructor: a well-formed instruction's frame passes
validation exactly when the instruction is not INVALID (30_encoding.md R74, R79). -/

namespace Sys2Proof.Laws.ClassOfEncoding

/-- The instruction stands for a frame that passed validation. -/
def passes : Instr → Bool
  | .invalid _ => false
  | .turnOn | .turnOff | .brUp | .brDown
  | .setPct100 | .setPct90 | .setPct80 | .setPct70 | .setPct60
  | .setPct50 | .setPct40 | .setPct30 | .setPct20 | .setPct10 | .unknown _ => true

def Statement (i : Instr) : Prop :=
  ∀ P : Params, i.wellFormed P = true → Machine.valid P (encode i) = passes i

theorem ofRow {row : Frame × Instr} (h : row ∈ Machine.literalTable)
    (hw : ∀ P, row.2.wellFormed P = !P.addrCheck) (hp : passes row.2 = true) : Statement row.2 := by
  intro P h'
  rw [Machine.encode_of_row h, Machine.valid_literal P h, hp, ← hw P, h']

theorem invalid (f : Frame) : Statement (.invalid f) := by
  intro P h
  simpa [Instr.wellFormed, encode, passes] using h

theorem unknown (f : Frame) : Statement (.unknown f) := by
  intro P h
  simp only [Instr.wellFormed, Bool.and_eq_true] at h
  simp [encode, passes, h.1]

theorem turnOn : Statement .turnOn :=
  ofRow (row := (0xFC03EF00#32, .turnOn)) (by decide) (fun _ => rfl) rfl

theorem turnOff : Statement .turnOff :=
  ofRow (row := (0xFD02EF00#32, .turnOff)) (by decide) (fun _ => rfl) rfl

theorem brUp : Statement .brUp :=
  ofRow (row := (0xFF00EF00#32, .brUp)) (by decide) (fun _ => rfl) rfl

theorem brDown : Statement .brDown :=
  ofRow (row := (0xFE01EF00#32, .brDown)) (by decide) (fun _ => rfl) rfl

theorem setPct100 : Statement .setPct100 :=
  ofRow (row := (0xFB04EF00#32, .setPct100)) (by decide) (fun _ => rfl) rfl

theorem setPct90 : Statement .setPct90 :=
  ofRow (row := (0xF708EF00#32, .setPct90)) (by decide) (fun _ => rfl) rfl

theorem setPct80 : Statement .setPct80 :=
  ofRow (row := (0xF30CEF00#32, .setPct80)) (by decide) (fun _ => rfl) rfl

theorem setPct70 : Statement .setPct70 :=
  ofRow (row := (0xEF10EF00#32, .setPct70)) (by decide) (fun _ => rfl) rfl

theorem setPct60 : Statement .setPct60 :=
  ofRow (row := (0xEB14EF00#32, .setPct60)) (by decide) (fun _ => rfl) rfl

theorem setPct50 : Statement .setPct50 :=
  ofRow (row := (0xFA05EF00#32, .setPct50)) (by decide) (fun _ => rfl) rfl

theorem setPct40 : Statement .setPct40 :=
  ofRow (row := (0xF609EF00#32, .setPct40)) (by decide) (fun _ => rfl) rfl

theorem setPct30 : Statement .setPct30 :=
  ofRow (row := (0xF20DEF00#32, .setPct30)) (by decide) (fun _ => rfl) rfl

theorem setPct20 : Statement .setPct20 :=
  ofRow (row := (0xEE11EF00#32, .setPct20)) (by decide) (fun _ => rfl) rfl

theorem setPct10 : Statement .setPct10 :=
  ofRow (row := (0xEA15EF00#32, .setPct10)) (by decide) (fun _ => rfl) rfl

end Sys2Proof.Laws.ClassOfEncoding
end

