-- ==== Sys2Proof/Tests/Slice0.lean ====
section
/-! SUPPORT. The model's own tests, and a witness for the hypotheses of every statement. Expected results are those of
95_test_vectors.md and of the examples in the rules; each test names its source. -/

namespace Sys2Proof.Tests
open Sys2Proof.Machine

/-- `P_ADDR_CHECK = false`, `LEVEL_TRUNC_SAT`. -/
def noCheck : Params := { addrCheck := false, levelFn := .truncSat, resetIsOn := false }

/-- `P_ADDR_CHECK = false`, `LEVEL_NEAREST_SAT`. -/
def nearest : Params := { noCheck with levelFn := .nearestSat }

/-- A state (IS_ON, STEP, LEVEL) with one input to come. -/
def at_ (P : Params) (on : Bool) (st : BitVec 7) (lv : BitVec 16) (i : Input) : State :=
  { isOn := on, stepReg := st, level := lv, params := P, inputs := [i], events := [], trace := [] }

/-- Two events agree, compared by their numbers. -/
def sameEvent : Event → Event → Bool
  | .dutyWrite v, .dutyWrite w => v == w
  | .enableWrite a, .enableWrite b => a == b
  | .accept c, .accept d => cmdKind c == cmdKind d && cmdPct c == cmdPct d
  | .invalidFrame f, .invalidFrame g => f == g
  | .unknownCommand f, .unknownCommand g => f == g
  | _, _ => false

def sameEvents : List Event → List Event → Bool
  | [], [] => true
  | a :: as, b :: bs => sameEvent a b && sameEvents as bs
  | _, _ => false

/-- The next state has these registers and these events. -/
def gives (r : Result) (on : Bool) (st : BitVec 7) (lv : BitVec 16) (evs : List Event) : Bool :=
  match r with
  | .next t => t.isOn == on && t.stepReg == st && t.level == lv && sameEvents t.events evs
  | .fault _ => false
  | .refused _ => false

/-- The step is refused for this reason. -/
def refusedAs (r : Result) (why : Refusal) : Bool :=
  match r with
  | .refused w => w == why
  | .next _ => false
  | .fault _ => false

/-! ### Well-formedness refuses ill-formed terms -/

theorem test_wf_invalid_refuses_valid_frame : Instr.wellFormed noCheck (.invalid 0xFF00FF00#32) = false := by decide
theorem test_wf_unknown_refuses_invalid_frame : Instr.wellFormed noCheck (.unknown 0xDEADBEEF#32) = false := by decide
theorem test_wf_unknown_refuses_literal : Instr.wellFormed noCheck (.unknown 0xFC03EF00#32) = false := by decide
theorem test_wf_literal_refused_with_address_check : Instr.wellFormed Params.default .turnOn = false := by decide

/-! ### Decoding of words written out from 30_encoding.md R76 (fields NDATA, DATA, NADDR, ADDR) -/

theorem test_decode_turnOn_from_fields :
    decode noCheck (frameOf 0xFC#8 0x03#8 0xEF#8 0x00#8) = .turnOn := by decide
theorem test_decode_turnOn : decode noCheck 0xFC03EF00#32 = .turnOn := by decide
theorem test_decode_turnOff : decode noCheck 0xFD02EF00#32 = .turnOff := by decide
theorem test_decode_brUp : decode noCheck 0xFF00EF00#32 = .brUp := by decide
theorem test_decode_brDown : decode noCheck 0xFE01EF00#32 = .brDown := by decide
theorem test_decode_setPct100 : decode noCheck 0xFB04EF00#32 = .setPct100 := by decide
theorem test_decode_setPct90 : decode noCheck 0xF708EF00#32 = .setPct90 := by decide
theorem test_decode_setPct80 : decode noCheck 0xF30CEF00#32 = .setPct80 := by decide
theorem test_decode_setPct70 : decode noCheck 0xEF10EF00#32 = .setPct70 := by decide
theorem test_decode_setPct60 : decode noCheck 0xEB14EF00#32 = .setPct60 := by decide
theorem test_decode_setPct50 : decode noCheck 0xFA05EF00#32 = .setPct50 := by decide
theorem test_decode_setPct40 : decode noCheck 0xF609EF00#32 = .setPct40 := by decide
theorem test_decode_setPct30 : decode noCheck 0xF20DEF00#32 = .setPct30 := by decide
theorem test_decode_setPct20 : decode noCheck 0xEE11EF00#32 = .setPct20 := by decide
theorem test_decode_setPct10 : decode noCheck 0xEA15EF00#32 = .setPct10 := by decide
theorem test_decode_invalid : decode noCheck 0xDEADBEEF#32 = .invalid 0xDEADBEEF#32 := by decide
theorem test_decode_invalid_by_address : decode Params.default 0xFC03EF00#32 = .invalid 0xFC03EF00#32 := by decide
theorem test_decode_unknown : decode Params.default 0xFC03FF00#32 = .unknown 0xFC03FF00#32 := by decide
theorem test_decode_unknown_continues_progression : decode noCheck 0xE718EF00#32 = .unknown 0xE718EF00#32 := by decide
theorem test_decode_bytes_order :
    decodeBytes noCheck [0x00#8, 0xEF#8, 0x03#8, 0xFC#8, 0x11#8] = .ok (.turnOn, [0x11#8]) := by decide

/-- Every row of the table read as the host numbers it. -/
theorem test_table_words :
    decodeTableWord 32 0xFC03EF00 = some .turnOn ∧ decodeTableWord 32 0xEA15EF00 = some .setPct10 ∧
    decodeTableWord 32 0 = some (.invalid 0#32) ∧ decodeTableWord 32 0xFF00FF00 = some (.unknown 0xFF00FF00#32) := by
  decide

/-! ### FrameValidator: vectors V6, V11, V12, V13 (95_test_vectors.md §2.1) -/

theorem test_validate_V6 : validate Params.default 0xFC03EF00#32 = none ∧
    validate noCheck 0xFC03EF00#32 = some ⟨0x00#8, 0x03#8⟩ := by decide
theorem test_validate_V11 : validate Params.default 0xBF40DF20#32 = some ⟨0x20#8, 0x40#8⟩ := by decide
theorem test_validate_V12 : validate Params.default 0xBF40DE20#32 = none ∧
    validate noCheck 0xBF40DE20#32 = some ⟨0x20#8, 0x40#8⟩ := by decide
theorem test_validate_V13 : validate Params.default 0xBE40DF20#32 = none ∧ validate noCheck 0xBE40DF20#32 = none := by
  decide

/-! ### One step of each instruction (95_test_vectors.md §2.4, §3; the examples of R160 to R175) -/

theorem test_turnOn_already_on : gives (step (at_ noCheck true 37 24248 (.frame 0xFC03EF00#32))) true 37 24248
    [.dutyWrite 24248, .enableWrite true, .accept .turnOn] = true := by decide
theorem test_turnOff : gives (step (at_ noCheck true 37 24248 (.frame 0xFD02EF00#32))) false 37 24248
    [.enableWrite false, .accept .turnOff] = true := by decide
theorem test_brUp_ceiling : gives (step (at_ noCheck true 100 65535 (.frame 0xFF00EF00#32))) true 100 65535
    [.dutyWrite 65535, .accept .brightnessUp] = true := by decide
theorem test_brUp_nearest : gives (step (at_ nearest false 99 64881 (.frame 0xFF00EF00#32))) false 100 65535
    [.dutyWrite 65535, .accept .brightnessUp] = true := by decide
theorem test_brDown_floor : gives (step (at_ noCheck true 1 655 (.frame 0xFE01EF00#32))) true 1 655
    [.dutyWrite 655, .accept .brightnessDown] = true := by decide
theorem test_brDown_while_off : gives (step (at_ noCheck false 50 32768 (.frame 0xFE01EF00#32))) false 49 32112
    [.dutyWrite 32112, .accept .brightnessDown] = true := by decide
theorem test_setPct100 : gives (step (at_ noCheck true 37 24248 (.frame 0xFB04EF00#32))) true 100 65535
    [.dutyWrite 65535, .accept (.setPercent 100)] = true := by decide
theorem test_setPct90 : gives (step (at_ noCheck true 37 24248 (.frame 0xF708EF00#32))) true 90 58982
    [.dutyWrite 58982, .accept (.setPercent 90)] = true := by decide
theorem test_setPct80 : gives (step (at_ noCheck true 37 24248 (.frame 0xF30CEF00#32))) true 80 52428
    [.dutyWrite 52428, .accept (.setPercent 80)] = true := by decide
theorem test_setPct80_nearest : gives (step (at_ nearest false 37 24248 (.frame 0xF30CEF00#32))) false 80 52429
    [.dutyWrite 52429, .accept (.setPercent 80)] = true := by decide
theorem test_setPct70 : gives (step (at_ noCheck true 37 24248 (.frame 0xEF10EF00#32))) true 70 45875
    [.dutyWrite 45875, .accept (.setPercent 70)] = true := by decide
theorem test_setPct60 : gives (step (at_ noCheck true 37 24248 (.frame 0xEB14EF00#32))) true 60 39321
    [.dutyWrite 39321, .accept (.setPercent 60)] = true := by decide
theorem test_setPct60_nearest : gives (step (at_ nearest false 37 24248 (.frame 0xEB14EF00#32))) false 60 39322
    [.dutyWrite 39322, .accept (.setPercent 60)] = true := by decide
theorem test_setPct50 : gives (step (at_ noCheck true 37 24248 (.frame 0xFA05EF00#32))) true 50 32768
    [.dutyWrite 32768, .accept (.setPercent 50)] = true := by decide
theorem test_setPct40 : gives (step (at_ noCheck true 37 24248 (.frame 0xF609EF00#32))) true 40 26214
    [.dutyWrite 26214, .accept (.setPercent 40)] = true := by decide
theorem test_setPct30 : gives (step (at_ noCheck true 37 24248 (.frame 0xF20DEF00#32))) true 30 19660
    [.dutyWrite 19660, .accept (.setPercent 30)] = true := by decide
theorem test_setPct30_nearest : gives (step (at_ nearest false 37 24248 (.frame 0xF20DEF00#32))) false 30 19661
    [.dutyWrite 19661, .accept (.setPercent 30)] = true := by decide
theorem test_setPct20 : gives (step (at_ noCheck true 37 24248 (.frame 0xEE11EF00#32))) true 20 13107
    [.dutyWrite 13107, .accept (.setPercent 20)] = true := by decide
theorem test_setPct10 : gives (step (at_ noCheck true 37 24248 (.frame 0xEA15EF00#32))) true 10 6553
    [.dutyWrite 6553, .accept (.setPercent 10)] = true := by decide
theorem test_setPct10_nearest : gives (step (at_ nearest false 37 24248 (.frame 0xEA15EF00#32))) false 10 6554
    [.dutyWrite 6554, .accept (.setPercent 10)] = true := by decide
theorem test_invalid_frame : gives (step (at_ noCheck true 50 32768 (.frame 0xDEADBEEF#32))) true 50 32768
    [.invalidFrame 0xDEADBEEF#32] = true := by decide
theorem test_literal_invalid_with_address_check :
    gives (step (at_ Params.default false 10 6553 (.frame 0xFC03EF00#32))) false 10 6553
    [.invalidFrame 0xFC03EF00#32] = true := by decide
theorem test_unknown_frame : gives (step (at_ Params.default false 10 6553 (.frame 0xFC03FF00#32))) false 10 6553
    [.unknownCommand 0xFC03FF00#32] = true := by decide
theorem test_idle : gives (step (at_ noCheck true 50 32768 .idle)) true 50 32768 [] = true := by decide
theorem test_reset_step_from_ill_formed : gives (step (at_ nearest true 0 7 .reset)) false 10 6554 [] = true := by decide
theorem test_ill_formed_step_refused : refusedAs (step (at_ noCheck true 101 65535 .idle)) .illFormedStart = true := by
  decide
theorem test_ill_formed_level_refused : refusedAs (step (at_ noCheck true 50 32769 .idle)) .illFormedStart = true := by
  decide
theorem test_percent_out_of_contract : refusedAs (setPercent 15 State.reset) .percentOutOfContract = true := by decide
theorem test_delta_out_of_contract : refusedAs (adjustStep 2 State.reset) .deltaOutOfContract = true := by decide

/-- The host's placing of a table word, as the first step after reset. -/
theorem test_fetch_word_after_reset : gives (step (State.reset.withFetchWord 32 0xFB04EF00)) false 100 65535
    [.dutyWrite 65535, .accept (.setPercent 100)] = true := by decide

/-! ### Reset values and ports (95_test_vectors.md §2.6; R36, R37, R125) -/

theorem test_reset : State.reset.isOn = false ∧ State.reset.stepReg = 10 ∧ State.reset.level = 6553 := by decide
theorem test_reset_nearest : (State.resetWith nearest).level = 6554 := by decide

/-- The diagnostic ports of a step. -/
def evtPorts (r : Result) : Option (BitVec 2 × Frame × BitVec 3 × BitVec 7) :=
  match r with
  | .next t => some (evtKind t, evtFrame t, evtCmdKind t, evtCmdPct t)
  | .fault _ => none
  | .refused _ => none

theorem test_ports_accept : evtPorts (step (at_ noCheck true 10 6553 (.frame 0xF609EF00#32))) = some (1, 0, 4, 40) := by
  decide
theorem test_ports_invalid :
    evtPorts (step (at_ noCheck true 10 6553 (.frame 0x12345678#32))) = some (2, 0x12345678#32, 0, 0) := by decide
theorem test_ports_unknown :
    evtPorts (step (at_ noCheck true 10 6553 (.frame 0xFB04EF01#32))) = some (3, 0xFB04EF01#32, 0, 0) := by decide
theorem test_input_of_ports : inputOfPorts true true 0xFC03EF00#32 = .reset ∧
    inputOfPorts false true 0xFC03EF00#32 = .frame 0xFC03EF00#32 ∧ inputOfPorts false false 0xFC03EF00#32 = .idle := by
  decide

/-! ### Assembler (R83, R84) -/

theorem test_assemble_nec : assemble (.nec 0x00#8 0x03#8) = .ok (.frame 0xFC03FF00#32) := by decide
theorem test_assemble_program : assembleProgram [.setPct 100, .turnOff, .idle] =
    .ok [.frame 0xFB04EF00#32, .frame 0xFD02EF00#32, .idle] := by decide
theorem test_assemble_bad_percent : assembleProgram [.turnOn, .setPct 15] = .error (.percentOutsideTable 15) := by decide

/-! ### Witnesses: concrete values that meet the hypotheses of each statement -/

theorem witness_DecodeOfEncodeIsTheInstruction : Instr.wellFormed noCheck .turnOn = true ∧ Instr.wellFormed Params.default (.invalid 0#32) = true ∧
    Instr.wellFormed Params.default (.unknown 0xFF00FF00#32) = true :=
  by decide

theorem witness_FramesClassifyInThePrescribedOrder : valid Params.default 0xFC03EF00#32 = false ∧
    (valid noCheck 0xFC03EF00#32 = true ∧ (0xFC03EF00#32, Instr.turnOn) ∈ literalTable) ∧
    (valid noCheck 0xFC03EF01#32 = true ∧ ∀ row ∈ literalTable, 0xFC03EF01#32 ≠ row.1) :=
  by decide

theorem witness_LookupIsTheCommandTable : (0xFC03EF01#32 : Frame) ∉ [0xFC03EF00#32, 0xFD02EF00#32, 0xFF00EF00#32, 0xFE01EF00#32,
    0xFB04EF00#32, 0xF708EF00#32, 0xF30CEF00#32, 0xEF10EF00#32, 0xEB14EF00#32, 0xFA05EF00#32, 0xF609EF00#32,
    0xF20DEF00#32, 0xEE11EF00#32, 0xEA15EF00#32] ∧ lookup 0xFC03EF00#32 ≠ .unknown 0xFC03EF00#32 :=
  by decide

theorem witness_WordsOfTheTableDecode : noCheck.addrCheck = false :=
  by decide

theorem witness_LiteralsAreValidOnlyWithoutAddressCheck : Params.default.addrCheck = true ∧ noCheck.addrCheck = false ∧ literalTable ≠ [] :=
  by decide

theorem witness_PercentDataBytesFormTwoProgressions : (∀ row ∈ literalTable, 0xE718EF00#32 ≠ row.1) ∧
    valid noCheck 0xE718EF00#32 = true ∧ valid noCheck 0xE619EF00#32 = true :=
  by decide

theorem witness_ClassSizesAreThoseOfTheTable : Params.default.addrCheck = true ∧ noCheck.addrCheck = false :=
  by decide

theorem witness_BytesAssembleLittleEndianAndWhole : (0xFC03EF00#32).toNat =
    (0x00#8).toNat + 256 * (0xEF#8).toNat + 65536 * (0x03#8).toNat + 16777216 * (0xFC#8).toNat ∧
    ([] : List Byte).length < 4 ∧ [0x00#8, 0x00#8, 0x00#8].length < 4 :=
  by decide

theorem witness_AssemblerLinesPresentTheirInputs : 10 ∈ [10, 20, 30, 40, 50, 60, 70, 80, 90, 100] ∧ 100 ∈ [10, 20, 30, 40, 50, 60, 70, 80, 90, 100] ∧
    15 ∉ [10, 20, 30, 40, 50, 60, 70, 80, 90, 100] :=
  by decide

theorem witness_PseudoInstructionsExpandToFrames : literalTable ≠ [] :=
  by decide

theorem witness_ValidateByShiftAndMask : ∃ byte : Nat → Nat, (∀ k, byte k = ((0xBF40DF20#32).toNat >>> (8 * k)) &&& 0xFF) ∧
    byte 3 = byte 2 ^^^ 0xFF ∧ byte 1 = byte 0 ^^^ 0xFF ∧
    ∃ byte' : Nat → Nat, (∀ k, byte' k = ((0xBE40DF20#32).toNat >>> (8 * k)) &&& 0xFF) ∧ byte' 3 ≠ byte' 2 ^^^ 0xFF ∧
    noCheck.addrCheck = false :=
  ⟨_, fun _ => rfl, by decide, by decide, _, fun _ => rfl, by decide, rfl⟩

theorem witness_ValidatorPortsFollowTheResult : valid Params.default 0xBF40DF20#32 = true ∧ valid Params.default 0xBE40DF20#32 = false ∧
    pendingInput (at_ noCheck true 10 6553 (.frame 0#32)) = .frame 0#32 :=
  by decide

theorem witness_UndetectedErrorMasks : valid Params.default 0xFC03FF00#32 = true ∧ valid noCheck 0xFC03FF00#32 = true ∧
    (0x01010000#32 : Frame) ≠ 0 :=
  by decide

theorem witness_SingleBitFlipsOfAValidFrame : valid Params.default 0xFC03FF00#32 = true ∧ valid noCheck 0xFC03FF00#32 = true ∧
    (0 < 16 ∧ 15 < 16) ∧ (16 ≤ 16 ∧ 31 < 32) ∧ Params.default.addrCheck = true ∧ noCheck.addrCheck = false :=
  by decide

theorem witness_LevelFunctionsAreFloorAndNearest : (1 ≤ 1 ∧ 1 < 100) ∧ 99 < 100 ∧ (levelOf .truncSat (BitVec.ofNat 7 99)).toNat = 64880 ∧
    (levelOf .nearestSat (BitVec.ofNat 7 99)).toNat = 64881 ∧ (levelOf .truncSat (BitVec.ofNat 7 100)).toNat = 65535 :=
  by decide

theorem witness_LevelDeterminesStep : 1 ≤ (1#7).toNat ∧ (1#7).toNat < (100#7).toNat ∧ (100#7).toNat ≤ 100 :=
  by decide

theorem witness_AdjustStepClampsAndNeverWraps : ((1 : Int) = 1 ∨ (1 : Int) = -1) ∧ ((-1 : Int) = 1 ∨ (-1 : Int) = -1) ∧
    1 ≤ State.reset.stepReg.toNat ∧ State.reset.stepReg.toNat ≤ 100 :=
  by decide

theorem witness_BrightnessOperationsWriteStepAndLevel : (10#7 : BitVec 7) ∈ [10, 20, 30, 40, 50, 60, 70, 80, 90, 100] ∧
    ((1#7).toNat : Int) = max 1 (min 100 (((1#7).toNat : Int) + -1)) ∧
    ((100#7).toNat : Int) = max 1 (min 100 (((100#7).toNat : Int) + 1)) :=
  by decide

theorem witness_OperationsRefuseArgumentsOutsideTheirContract : (15#7 : BitVec 7) ∉ [10, 20, 30, 40, 50, 60, 70, 80, 90, 100] ∧
    (2 : Int) ≠ 1 ∧ (2 : Int) ≠ -1 :=
  by decide

theorem witness_BrightnessUpResult : (100#7).toNat = min ((100#7).toNat + 1) 100 ∧ (11#7).toNat = min (State.reset.stepReg.toNat + 1) 100 :=
  by decide

theorem witness_BrightnessDownResult : (1#7).toNat = min (max ((1#7).toNat - 1) 1) 100 ∧
    (9#7).toNat = min (max (State.reset.stepReg.toNat - 1) 1) 100 :=
  by decide

theorem witness_SetPercentResults : (52428#16 : BitVec 16) = (match noCheck.levelFn with | .truncSat => 52428#16 | .nearestSat => 52429#16) ∧
    (52429#16 : BitVec 16) = (match nearest.levelFn with | .truncSat => 52428#16 | .nearestSat => 52429#16) :=
  by decide

theorem witness_InvalidFrameResult : valid noCheck 0xDEADBEEF#32 = false ∧ Params.default.addrCheck = true ∧ literalTable ≠ [] :=
  by decide

theorem witness_UnknownFrameResult : valid noCheck 0xFC03FF00#32 = true ∧ lookup 0xFC03FF00#32 = .unknown 0xFC03FF00#32 ∧
    Params.default.addrCheck = true ∧ valid Params.default 0xFC03FF00#32 = true :=
  by decide

theorem witness_StepRunsTheDecodedInstruction : (at_ noCheck true 50 32768 (.frame 0xFC03EF00#32)).wellFormed = true ∧
    (at_ noCheck true 50 32768 (.frame 0xFC03EF00#32)).inputs = .frame 0xFC03EF00#32 :: [] :=
  by decide

theorem witness_IdleStepChangesNothing : (at_ noCheck true 50 32768 .idle).wellFormed = true ∧
    (at_ noCheck true 50 32768 .idle).inputs = .idle :: [] :=
  by decide

theorem witness_ExhaustedInputsPresentNothing : State.reset.wellFormed = true ∧ State.reset.inputs = [] :=
  by decide

theorem witness_ResetSetsEveryRegister : noCheck.levelFn = .truncSat ∧ nearest.levelFn = .nearestSat :=
  by decide

theorem witness_ResetStepFromAnyState : (at_ noCheck true 0 7 .reset).inputs = .reset :: [] ∧ (at_ noCheck true 0 7 .reset).wellFormed = false :=
  by decide

theorem witness_IllegalStepNeverArisesAndIsRefused : (∃ t, step (at_ noCheck true 50 32768 .idle) = .next t) ∧
    ¬(1 ≤ (at_ noCheck true 0 7 .idle).stepReg.toNat ∧ (at_ noCheck true 0 7 .idle).stepReg.toNat ≤ 100) ∧
    ¬(1 ≤ (at_ noCheck true 101 7 .idle).stepReg.toNat ∧ (at_ noCheck true 101 7 .idle).stepReg.toNat ≤ 100) ∧
    pendingInput (at_ noCheck true 0 7 .idle) ≠ .reset :=
  ⟨⟨_, rfl⟩, by decide, by decide, by decide⟩

theorem witness_LevelIsConsistentWithStep : (∃ t, step (at_ noCheck true 50 32768 .idle) = .next t) ∧
    (at_ noCheck true 50 32769 .idle).level ≠ levelOf (at_ noCheck true 50 32769 .idle).params.levelFn 50 ∧
    (at_ noCheck true 50 32768 .idle).wellFormed = true ∧ pendingInput (at_ noCheck true 50 32769 .idle) ≠ .reset :=
  ⟨⟨_, rfl⟩, by decide, by decide, by decide⟩

theorem witness_EveryStepCompletesWellFormed : State.reset.wellFormed = true ∧ (at_ noCheck true 100 65535 .idle).wellFormed = true :=
  by decide

theorem witness_StepRefinesTheSpecFunction : (at_ noCheck true 50 32768 (.frame 0xFC03EF00#32)).wellFormed = true ∧
    (at_ noCheck true 50 32768 (.frame 0xFC03EF00#32)).inputs = inputOf (some 0xFC03EF00#32) :: [] ∧
    (at_ noCheck true 50 32768 .idle).inputs = inputOf none :: [] :=
  by decide

theorem witness_EveryInputSequenceRuns : (at_ noCheck true 1 655 .idle).wellFormed = true ∧ State.reset.wellFormed = true :=
  by decide

theorem witness_RunsComposeInOrder : (at_ noCheck true 1 655 .idle).wellFormed = true ∧ State.reset.wellFormed = true :=
  by decide

theorem witness_IdleStepsMakeNoDifference : (at_ noCheck true 1 655 .idle).wellFormed = true ∧ State.reset.wellFormed = true :=
  by decide

theorem witness_IsOnNeverInfluencesBrightness : (at_ noCheck true 1 655 .idle).wellFormed = true ∧ State.reset.wellFormed = true :=
  by decide

theorem witness_StepConsumesOneInputAndKeepsParameters : (∃ t, step (at_ noCheck true 50 32768 (.frame 0xFC03EF00#32)) = .next t) ∧
    pendingInput (at_ noCheck true 50 32768 (.frame 0xFC03EF00#32)) ≠ .reset ∧
    (∃ t, step (at_ noCheck true 50 32768 .idle) = .next t) ∧ pendingInput (at_ noCheck true 50 32768 .idle) = .idle :=
  ⟨⟨_, rfl⟩, by decide, ⟨_, rfl⟩, by decide⟩

theorem witness_EventListEndsInOneDiagnostic : (∃ t, step (at_ noCheck true 50 32768 (.frame 0xFC03EF00#32)) = .next t) ∧
    pendingInput (at_ noCheck true 50 32768 (.frame 0xFC03EF00#32)) ≠ .reset ∧
    (∃ t, step (at_ noCheck true 50 32768 .idle) = .next t) ∧ pendingInput (at_ noCheck true 50 32768 .idle) = .idle :=
  ⟨⟨_, rfl⟩, by decide, ⟨_, rfl⟩, by decide⟩

theorem witness_FetchWordRunsTheTableInstruction : State.reset.wellFormed = true ∧ 32 ≤ 32 :=
  by decide

theorem witness_OnlySwitchCommandsWriteIsOn : ∃ t, step (at_ noCheck false 50 32768 (.frame 0xFC03EF00#32)) = .next t ∧
    pendingInput (at_ noCheck false 50 32768 (.frame 0xFC03EF00#32)) ≠ .reset ∧ t.isOn ≠ false :=
  ⟨_, rfl, by decide, by decide⟩

theorem witness_OnlyBrightnessCommandsWriteStepAndLevel : (∃ t, step (at_ noCheck false 50 32768 (.frame 0xFF00EF00#32)) = .next t ∧
    pendingInput (at_ noCheck false 50 32768 (.frame 0xFF00EF00#32)) ≠ .reset ∧ t.stepReg ≠ 50) ∧
    State.reset.wellFormed = true :=
  ⟨⟨_, rfl, by decide, by decide⟩, by decide⟩

theorem witness_OutputCallsCarryTheNewRegisters : ∃ t, step (at_ noCheck false 50 32768 (.frame 0xFC03EF00#32)) = .next t ∧
    Event.dutyWrite 32768 ∈ t.events ∧ Event.enableWrite true ∈ t.events :=
  ⟨_, rfl, by decide, by decide⟩

theorem witness_DiagnosticPortsReportTheOutcome : (∃ t, step (at_ noCheck true 50 32768 (.frame 0xFC03EF00#32)) = .next t) ∧
    valid Params.default 0xFC03EF00#32 = false ∧ (valid noCheck 0xFC03FF00#32 = true ∧ specLookup 0xFC03FF00#32 = none) ∧
    (valid noCheck 0xFC03EF00#32 = true ∧ specLookup 0xFC03EF00#32 = some .turnOn) ∧
    ∀ f, pendingInput (at_ noCheck true 50 32768 .idle) ≠ .frame f :=
  ⟨⟨_, rfl⟩, by decide, by decide, by decide, fun _ => by simp [pendingInput, at_]⟩

theorem witness_DiscardedFramesLeaveTheLightUnchanged : (at_ noCheck true 50 32768 (.frame 0xDEADBEEF#32)).wellFormed = true ∧
    (at_ noCheck true 50 32768 (.frame 0xDEADBEEF#32)).inputs = .frame 0xDEADBEEF#32 :: [] ∧
    valid noCheck 0xDEADBEEF#32 = false ∧ valid noCheck 0xFC03FF00#32 = true ∧ specLookup 0xFC03FF00#32 = none :=
  by decide

theorem witness_AcceptedPercentsAreTheTenValues : (∃ t, step (at_ noCheck true 50 32768 (.frame 0xEA15EF00#32)) = .next t ∧
    Event.accept (.setPercent 10) ∈ t.events) ∧ specLookup 0xFB04EF00#32 = some (.setPercent 100) :=
  ⟨⟨_, rfl, by decide⟩, by decide⟩

theorem witness_RepeatedAdjustmentsConvergeAndStay : (at_ noCheck true 1 655 .idle).wellFormed = true ∧ (at_ noCheck true 100 65535 .idle).wellFormed = true ∧
    (at_ noCheck true 1 655 .idle).params.addrCheck = false ∧
    100 - (1 : Nat) ≤ 99 ∧ (100 : Nat) - 1 ≤ 99 :=
  by decide

theorem witness_SwitchSequencesKeepStepAndLevel : (at_ noCheck true 1 655 .idle).wellFormed = true ∧ (at_ noCheck true 100 65535 .idle).wellFormed = true ∧
    (at_ noCheck true 1 655 .idle).params.addrCheck = false :=
  by decide

end Sys2Proof.Tests
end

section
/-! PROOFS. What an instruction and a step do, each as one equation, and the rules the laws of 10_state.md rest on. -/

namespace Sys2Proof.Machine

/-! ### The command of an instruction, and the frame of a decoded one -/

/-- The command an instruction executes; the two discarded classes execute none (41_command_decode.md R125). -/
def commandOf : Instr → Option Command
  | .turnOn => some .turnOn
  | .turnOff => some .turnOff
  | .brUp => some .brightnessUp
  | .brDown => some .brightnessDown
  | i => (percentOf i).map .setPercent

theorem isLiteral_iff (f : Frame) : isLiteral f = true ↔ ∃ row ∈ literalTable, row.1 = f := by
  simp only [isLiteral, List.any_eq_true, beq_iff_eq]

theorem specLookup_of_row {row : Frame × Instr} (h : row ∈ literalTable) :
    specLookup row.1 = commandOf row.2 := by
  revert row; decide

theorem commandOf_isSome_of_row {row : Frame × Instr} (h : row ∈ literalTable) : (commandOf row.2).isSome = true := by
  revert row; decide

theorem specLookup_of_not_literal {f : Frame} (h : isLiteral f = false) : specLookup f = none := by
  have hne : ∀ row ∈ literalTable, f ≠ row.1 := fun row hr he => by
    simp [(isLiteral_iff f).2 ⟨row, hr, he.symm⟩] at h
  simp only [literalTable, List.forall_mem_cons] at hne
  simp [specLookup, hne]

/-- The case list of R120 and the table of the model name the same command. -/
theorem specLookup_eq_commandOf_lookup (f : Frame) : specLookup f = commandOf (lookup f) := by
  cases h : isLiteral f with
  | false => rw [specLookup_of_not_literal h, lookup_of_not_literal h]; rfl
  | true =>
    obtain ⟨row, hr, rfl⟩ := (isLiteral_iff f).1 h
    rw [specLookup_of_row hr, lookup_of_row hr]

theorem encode_lookup (f : Frame) : encode (lookup f) = f := by
  cases h : isLiteral f with
  | false => rw [lookup_of_not_literal h]; rfl
  | true =>
    obtain ⟨row, hr, rfl⟩ := (isLiteral_iff f).1 h
    rw [lookup_of_row hr, encode_of_row hr]

theorem decode_of_valid {P : Params} {f : Frame} (h : valid P f = true) : decode P f = lookup f := by
  simp [decode, h]

theorem decode_of_not_valid {P : Params} {f : Frame} (h : valid P f = false) : decode P f = .invalid f := by
  simp [decode, h]

/-- Decoding loses nothing of the frame (30_encoding.md R75). -/
theorem encode_decode (P : Params) (f : Frame) : encode (decode P f) = f := by
  cases h : valid P f with
  | false => rw [decode_of_not_valid h]; rfl
  | true => rw [decode_of_valid h, encode_lookup]

/-- A discarded class is the class of the frame presented. -/
theorem decode_of_no_command {P : Params} {f : Frame} (h : commandOf (decode P f) = none) :
    decode P f = .invalid f ∨ decode P f = .unknown f := by
  have he := encode_decode P f
  generalize decode P f = i at h he
  cases i <;> simp [commandOf, percentOf] at h
  case invalid g => exact .inl (congrArg _ he)
  case unknown g => exact .inr (congrArg _ he)

theorem commandOf_decode_of_valid {P : Params} {f : Frame} (h : valid P f = true) :
    commandOf (decode P f) = specLookup f := by
  rw [decode_of_valid h, specLookup_eq_commandOf_lookup]

theorem specLookup_of_commandOf_decode {P : Params} {f : Frame} {c : Command}
    (h : commandOf (decode P f) = some c) : specLookup f = some c := by
  cases hv : valid P f with
  | false => simp [decode_of_not_valid hv, commandOf, percentOf] at h
  | true => rw [← commandOf_decode_of_valid hv, h]

theorem decode_of_valid_of_specLookup_none {P : Params} {f : Frame} (hv : valid P f = true)
    (hl : specLookup f = none) : decode P f = .unknown f := by
  cases h : isLiteral f with
  | false => rw [decode_of_valid hv, lookup_of_not_literal h]
  | true =>
    obtain ⟨row, hr, rfl⟩ := (isLiteral_iff f).1 h
    have hc := commandOf_isSome_of_row hr
    simp [← specLookup_of_row hr, hl] at hc

/-! ### The meaning of an instruction: an operation, then its diagnostic event -/

/-- The STEP an instruction writes, if it writes one (42_brightness_commands.md R162 to R173). -/
def newStep (i : Instr) (st : BitVec 7) : Option (BitVec 7) :=
  match i with
  | .brUp => some (adjustedStep st 1)
  | .brDown => some (adjustedStep st (-1))
  | i => percentOf i

/-- The operation of LightController an instruction runs; the discarded classes run none (R160 to R175). -/
def operate (i : Instr) (s : State) : State :=
  match i with
  | .turnOn => turnOn s
  | .turnOff => turnOff s
  | i =>
    match newStep i s.stepReg with
    | some st => writeStep st s
    | none => s

/-- The diagnostic event of an instruction (R201, R212). -/
def diagnosticOf : Instr → Event
  | .invalid f => .invalidFrame f
  | .unknown f => .unknownCommand f
  | .turnOn => .accept .turnOn
  | .turnOff => .accept .turnOff
  | .brUp => .accept .brightnessUp
  | .brDown => .accept .brightnessDown
  | .setPct100 => .accept (.setPercent 100)
  | .setPct90 => .accept (.setPercent 90)
  | .setPct80 => .accept (.setPercent 80)
  | .setPct70 => .accept (.setPercent 70)
  | .setPct60 => .accept (.setPercent 60)
  | .setPct50 => .accept (.setPercent 50)
  | .setPct40 => .accept (.setPercent 40)
  | .setPct30 => .accept (.setPercent 30)
  | .setPct20 => .accept (.setPercent 20)
  | .setPct10 => .accept (.setPercent 10)

theorem exec_eq (i : Instr) (s : State) : exec i s = .next (emit (diagnosticOf i) (operate i s)) := by
  cases i <;> rfl

theorem diagnosticOf_isDiagnostic (i : Instr) : (diagnosticOf i).isDiagnostic = true := by
  cases i <;> rfl

theorem diagnosticOf_of_commandOf {i : Instr} {c : Command} (h : commandOf i = some c) :
    diagnosticOf i = .accept c := by
  cases i <;> simp [commandOf, percentOf] at h <;> subst h <;> rfl

/-- Everything an operation can do. -/
theorem operate_cases (i : Instr) (s : State) :
    (i = .turnOn ∧ operate i s = turnOn s) ∨
    (i = .turnOff ∧ operate i s = turnOff s) ∨
    (∃ st, newStep i s.stepReg = some st ∧ operate i s = writeStep st s) ∨
    operate i s = s := by
  cases i
  case turnOn => exact .inl ⟨rfl, rfl⟩
  case turnOff => exact .inr (.inl ⟨rfl, rfl⟩)
  case invalid => exact .inr (.inr (.inr rfl))
  case unknown => exact .inr (.inr (.inr rfl))
  all_goals exact .inr (.inr (.inl ⟨_, rfl, rfl⟩))

theorem newStep_legal {i : Instr} {st st' : BitVec 7} (h : newStep i st = some st') :
    1 ≤ st'.toNat ∧ st'.toNat ≤ 100 := by
  unfold newStep at h
  split at h
  · obtain rfl := Option.some.inj h
    exact adjustedStep_legal st 1
  · obtain rfl := Option.some.inj h
    exact adjustedStep_legal st (-1)
  · exact percentSet_legal (percentOf_mem h)

/-- The instructions that write STEP are the twelve brightness commands. -/
theorem mem_of_newStep {i : Instr} {st st' : BitVec 7} (h : newStep i st = some st') :
    i ∈ [.brUp, .brDown, .setPct100, .setPct90, .setPct80, .setPct70, .setPct60, .setPct50,
      .setPct40, .setPct30, .setPct20, .setPct10] := by
  cases i <;> simp [newStep, percentOf] at h ⊢

theorem operate_wellFormed {s : State} (h : s.wellFormed = true) (i : Instr) :
    (operate i s).wellFormed = true := by
  obtain ⟨-, ho⟩ | ⟨-, ho⟩ | ⟨st, hst, ho⟩ | ho := operate_cases i s
  · simp [ho, h]
  · simp [ho, h]
  · rw [ho]; exact writeStep_wellFormed (newStep_legal hst) s
  · rw [ho, h]

/-- An operation emits output calls alone, each with the register it leaves (R34, R35), on its event list and on
the trace alike. -/
theorem operate_calls (i : Instr) (s : State) :
    ∃ calls, (operate i s).events = s.events ++ calls ∧ (operate i s).trace = s.trace ++ calls ∧
      ∀ e ∈ calls, e = .dutyWrite (operate i s).level ∨ e = .enableWrite (operate i s).isOn := by
  obtain ⟨-, h⟩ | ⟨-, h⟩ | ⟨st, -, h⟩ | h := operate_cases i s
  · exact ⟨[.dutyWrite s.level, .enableWrite true], by simp [h]⟩
  · exact ⟨[.enableWrite false], by simp [h]⟩
  · exact ⟨[.dutyWrite (levelOf s.params.levelFn st)], by simp [h]⟩
  · exact ⟨[], by simp [h]⟩

/-! ### The step as one equation -/

/-- The state after a step that is not refused. -/
def nextState (s : State) : State :=
  match pendingInput s with
  | .reset => applyReset (takeInput s)
  | .idle => takeInput s
  | .frame f => emit (diagnosticOf (decode s.params f)) (operate (decode s.params f) (takeInput s))

theorem nextState_of_reset {s : State} (h : pendingInput s = .reset) :
    nextState s = applyReset (takeInput s) := by
  simp [nextState, h]

theorem nextState_of_idle {s : State} (h : pendingInput s = .idle) : nextState s = takeInput s := by
  simp [nextState, h]

theorem nextState_of_frame {s : State} {f : Frame} (h : pendingInput s = .frame f) :
    nextState s = emit (diagnosticOf (decode s.params f)) (operate (decode s.params f) (takeInput s)) := by
  simp [nextState, h]

theorem step_of_ill_formed {s : State} (hw : s.wellFormed = false) (hr : pendingInput s ≠ .reset) :
    step s = .refused .illFormedStart := by
  obtain ⟨h, -⟩ | ⟨-, h, -⟩ | ⟨_, -, h, -⟩ | ⟨-, -, h⟩ := step_cases (s := s) rfl
  · exact absurd h hr
  · simp [hw] at h
  · simp [hw] at h
  · exact h

/-- A step answers a state exactly when its input is a reset or its start state is well-formed. -/
theorem step_eq_next_iff {s t : State} :
    step s = .next t ↔ (pendingInput s = .reset ∨ s.wellFormed = true) ∧ nextState s = t := by
  obtain ⟨hp, h⟩ | ⟨hp, hw, h⟩ | ⟨f, hp, hw, h⟩ | ⟨hp, hw, h⟩ := step_cases (s := s) rfl
  · simp [h, hp, nextState_of_reset hp]
  · simp [h, hw, nextState_of_idle hp]
  · simp [← h, exec_eq, hw, nextState_of_frame hp]
  · simp [h, hp, hw]

theorem step_of_wellFormed {s : State} (h : s.wellFormed = true) : step s = .next (nextState s) :=
  step_eq_next_iff.2 ⟨.inr h, rfl⟩

/-- Well-formedness is kept by every step (10_state.md R25, R27). -/
theorem step_wellFormed {s t : State} (h : step s = .next t) : t.wellFormed = true := by
  obtain ⟨hs, rfl⟩ := step_eq_next_iff.1 h
  cases hp : pendingInput s with
  | reset => rw [nextState_of_reset hp]; exact applyReset_wellFormed _
  | idle => simpa [hp, nextState_of_idle hp] using hs
  | frame f =>
    have hw : s.wellFormed = true := by simpa [hp] using hs
    rw [nextState_of_frame hp, emit_wellFormed]
    exact operate_wellFormed (by simpa using hw) _

theorem step_on_frame {s t : State} {f : Frame} (hp : pendingInput s = .frame f)
    (h : step s = .next t) :
    t = emit (diagnosticOf (decode s.params f)) (operate (decode s.params f) (takeInput s)) := by
  rw [← nextState_of_frame hp]
  exact (step_eq_next_iff.1 h).2.symm

/-- The events of a step on a frame: its calls, each with the register after the step, then its diagnostic event. -/
theorem step_on_frame_events {s t : State} {f : Frame} (hp : pendingInput s = .frame f)
    (h : step s = .next t) :
    ∃ calls, t.events = calls ++ [diagnosticOf (decode s.params f)] ∧ t.trace = s.trace ++ t.events ∧
      ∀ e ∈ calls, e = .dutyWrite t.level ∨ e = .enableWrite t.isOn := by
  obtain ⟨calls, hev, htr, hcalls⟩ := operate_calls (decode s.params f) (takeInput s)
  obtain rfl := step_on_frame hp h
  exact ⟨calls, by simp [hev], by simp [hev, htr], hcalls⟩

theorem step_on_no_frame_events {s t : State} (hp : ∀ f, pendingInput s ≠ .frame f) (h : step s = .next t) :
    t.events = [] := by
  obtain ⟨-, rfl⟩ := step_eq_next_iff.1 h
  cases hi : pendingInput s with
  | reset => simp [nextState_of_reset hi]
  | idle => simp [nextState_of_idle hi]
  | frame f => exact absurd hi (hp f)

theorem run_succ_of_step {M : Host.Core} (k : Nat) {s s' : M.State} (h : M.step s = .next s') :
    M.run (k + 1) s = M.run k s' := by
  simp [Host.Core.run, h]

/-- A relation on states that well-formed steps keep is kept by runs of equal length. -/
theorem run_related {R : State → State → Prop}
    (hstep : ∀ s u, R s u → ∃ s' u', step s = .next s' ∧ step u = .next u' ∧ R s' u') (k : Nat) :
    ∀ s u, R s u → ∃ t v, Sys2Proof.core.run k s = .next t ∧ Sys2Proof.core.run k u = .next v ∧ R t v := by
  induction k with
  | zero => exact fun s u h => ⟨s, u, rfl, rfl, h⟩
  | succ k ih =>
    intro s u h
    obtain ⟨s', u', hs, hu, h'⟩ := hstep s u h
    obtain ⟨t, v, ht, hv, htv⟩ := ih s' u' h'
    refine ⟨t, v, ?_, ?_, htv⟩
    · exact (run_succ_of_step k hs).trans ht
    · exact (run_succ_of_step k hu).trans hv

/-! ### Events and the ports read from them -/

theorem isDutyWrite_iff (e : Event) : e.isDutyWrite = true ↔ ∃ v, e = .dutyWrite v := by
  cases e <;> simp [Event.isDutyWrite]

theorem isEnableWrite_iff (e : Event) : e.isEnableWrite = true ↔ ∃ b, e = .enableWrite b := by
  cases e <;> simp [Event.isEnableWrite]

theorem dutyWr_iff (s : State) : dutyWr s = true ↔ ∃ v, Event.dutyWrite v ∈ s.events := by
  simp only [dutyWr, List.any_eq_true, isDutyWrite_iff]
  exact ⟨fun ⟨_, he, v, hv⟩ => ⟨v, hv ▸ he⟩, fun ⟨v, hv⟩ => ⟨_, hv, v, rfl⟩⟩

theorem enWr_iff (s : State) : enWr s = true ↔ ∃ b, Event.enableWrite b ∈ s.events := by
  simp only [enWr, List.any_eq_true, isEnableWrite_iff]
  exact ⟨fun ⟨_, he, b, hb⟩ => ⟨b, hb ▸ he⟩, fun ⟨b, hb⟩ => ⟨_, hb, b, rfl⟩⟩

theorem diagnostic_of_no_events {s : State} (h : s.events = []) : diagnostic s = none := by
  simp [diagnostic, h]

/-- Behind calls alone, the diagnostic event of the step is the last of its list. -/
theorem diagnostic_of_calls {s : State} {calls : List Event} {d : Event} (h : s.events = calls ++ [d])
    (hd : d.isDiagnostic = true) (hcalls : ∀ e ∈ calls, e.isDiagnostic = false) : diagnostic s = some d := by
  have hnone : calls.find? Event.isDiagnostic = none := by simpa using hcalls
  simp [diagnostic, h, List.find?_append, hnone, hd]

theorem step_on_frame_diagnostic {s t : State} {f : Frame} (hp : pendingInput s = .frame f)
    (h : step s = .next t) : diagnostic t = some (diagnosticOf (decode s.params f)) := by
  obtain ⟨calls, hev, -, hcalls⟩ := step_on_frame_events hp h
  refine diagnostic_of_calls hev (diagnosticOf_isDiagnostic _) fun e he => ?_
  obtain rfl | rfl := hcalls e he <;> rfl

theorem cmdKind_le_four (c : Command) : cmdKind c ≤ 4 := by
  cases c <;> simp [cmdKind]

/-- Codes 5, 6 and 7 are no command's (41_command_decode.md R125). -/
theorem evtCmdKind_le_four (s : State) : evtCmdKind s ≤ 4 := by
  unfold evtCmdKind
  split
  · exact cmdKind_le_four _
  all_goals decide

/-! ### Validation -/

theorem validate_of_valid {P : Params} {f : Frame} (h : valid P f = true) :
    validate P f = some ⟨addr f, data f⟩ := by
  simp [validate, h]

theorem validate_of_not_valid {P : Params} {f : Frame} (h : valid P f = false) : validate P f = none := by
  simp [validate, h]

/-! ### IS_ON is read by nothing -/

/-- A state with another IS_ON. -/
def State.withIsOn (b : Bool) (s : State) : State := { s with isOn := b }

theorem operate_withIsOn (i : Instr) (s : State) (b : Bool) :
    ∃ b', operate i (s.withIsOn b) = (operate i s).withIsOn b' := by
  cases i
  case turnOn => exact ⟨true, rfl⟩
  case turnOff => exact ⟨false, rfl⟩
  all_goals exact ⟨b, rfl⟩

theorem nextState_withIsOn (s : State) (b : Bool) :
    ∃ b', nextState (s.withIsOn b) = (nextState s).withIsOn b' := by
  have hsame : pendingInput (s.withIsOn b) = pendingInput s := rfl
  cases hp : pendingInput s with
  | reset =>
    rw [nextState_of_reset hp, nextState_of_reset (hsame.trans hp)]
    exact ⟨s.params.resetIsOn, rfl⟩
  | idle =>
    rw [nextState_of_idle hp, nextState_of_idle (hsame.trans hp)]
    exact ⟨b, rfl⟩
  | frame f =>
    obtain ⟨b', hb⟩ := operate_withIsOn (decode s.params f) (takeInput s) b
    rw [nextState_of_frame hp, nextState_of_frame (hsame.trans hp)]
    exact ⟨b', congrArg (emit _) hb⟩

/-- The relation of the two runs: well-formed, and apart at most in IS_ON. -/
def DifferInIsOn (s u : State) : Prop := s.wellFormed = true ∧ ∃ b, u = s.withIsOn b

theorem step_differInIsOn {s u : State} (h : DifferInIsOn s u) :
    ∃ s' u', step s = .next s' ∧ step u = .next u' ∧ DifferInIsOn s' u' := by
  obtain ⟨hw, b, rfl⟩ := h
  have hs := step_of_wellFormed hw
  exact ⟨_, _, hs, step_of_wellFormed hw, step_wellFormed hs, nextState_withIsOn s b⟩

theorem run_differInIsOn {s u : State} (k : Nat) (h : DifferInIsOn s u) :
    ∃ t v, Sys2Proof.core.run k s = .next t ∧ Sys2Proof.core.run k u = .next v ∧ DifferInIsOn t v :=
  run_related (fun _ _ => step_differInIsOn) k s u h

end Sys2Proof.Machine
end

section
/-! PROOFS. The statements of 10_state.md. -/

namespace Sys2Proof.Machine

/-- Settles O47: the relation "apart at most in IS_ON" is kept by every step, so by every run. -/
theorem isOnNeverInfluencesBrightness : Obligations.IsOnNeverInfluencesBrightness := by
  refine ⟨fun ins s b hw => ?_, ?_⟩
  · obtain ⟨t, u, ht, hu, -, b', rfl⟩ :=
      run_differInIsOn (s := s.withInputs ins) ins.length ⟨hw, b, rfl⟩
    exact ⟨t, _, ht, hu, rfl⟩
  · rintro i s t (rfl | rfl) h
    · obtain rfl := Host.Outcome.next.inj ((exec_turnOn s).symm.trans h)
      exact ⟨rfl, rfl⟩
    · obtain rfl := Host.Outcome.next.inj ((exec_turnOff s).symm.trans h)
      exact ⟨rfl, rfl⟩

/-- Settles O34: a step ends well-formed, and it starts from a well-formed state or with a reset. -/
theorem illegalStepNeverArisesAndIsRefused : Obligations.IllegalStepNeverArisesAndIsRefused := by
  refine ⟨fun P => by simp [State.resetWith, Config.resetStep], fun s t h => ?_, fun s hillegal => ?_⟩
  · obtain ⟨hlo, hhi, -⟩ := (wellFormed_iff t).1 (step_wellFormed h)
    exact ⟨hlo, hhi⟩
  · have hw : s.wellFormed = false := by
      rw [Bool.eq_false_iff, Ne, wellFormed_iff]
      exact fun ⟨hlo, hhi, _⟩ => hillegal ⟨hlo, hhi⟩
    exact ⟨hw, step_of_ill_formed hw⟩

/-- Settles O45: of the operations only turnOn and turnOff write IS_ON, and a decoded frame is its instruction's
encoding. -/
theorem onlySwitchCommandsWriteIsOn : Obligations.OnlySwitchCommandsWriteIsOn := by
  refine ⟨fun _ => rfl, fun _ _ => rfl, fun s t h hr hon => ?_⟩
  obtain ⟨-, rfl⟩ := step_eq_next_iff.1 h
  cases hp : pendingInput s with
  | reset => exact absurd hp hr
  | idle => simp [nextState_of_idle hp] at hon
  | frame f =>
    have hf := encode_decode s.params f
    rw [nextState_of_frame hp, emit_isOn] at hon ⊢
    obtain ⟨hi, ho⟩ | ⟨hi, ho⟩ | ⟨st, -, ho⟩ | ho := operate_cases (decode s.params f) (takeInput s)
    · rw [hi] at hf
      exact .inl ⟨congrArg _ hf.symm, by simp [ho]⟩
    · rw [hi] at hf
      exact .inr ⟨congrArg _ hf.symm, by simp [ho]⟩
    · simp [ho] at hon
    · simp [ho] at hon

/-- Settles O46: of the operations only writeStep writes STEP and LEVEL, and it writes them together. -/
theorem onlyBrightnessCommandsWriteStepAndLevel : Obligations.OnlyBrightnessCommandsWriteStepAndLevel := by
  refine ⟨fun _ => ⟨rfl, rfl⟩, fun s hw => ?_, fun s t h hr hchange => ?_⟩
  · obtain ⟨hlo, hhi, -⟩ := (wellFormed_iff s).1 hw
    exact ⟨hlo, hhi⟩
  · obtain ⟨-, rfl⟩ := step_eq_next_iff.1 h
    cases hp : pendingInput s with
    | reset => exact absurd hp hr
    | idle => simp [nextState_of_idle hp] at hchange
    | frame f =>
      rw [nextState_of_frame hp] at hchange ⊢
      obtain ⟨-, ho⟩ | ⟨-, ho⟩ | ⟨st, hst, ho⟩ | ho := operate_cases (decode s.params f) (takeInput s)
      · simp [ho] at hchange
      · simp [ho] at hchange
      · exact ⟨⟨f, rfl, mem_of_newStep hst⟩, by simp [ho]⟩
      · simp [ho] at hchange

/-- Settles O48: a step on a frame runs one operation, whose events are calls, and then emits its diagnostic. -/
theorem eventListEndsInOneDiagnostic : Obligations.EventListEndsInOneDiagnostic := by
  intro s t h hr
  have hidle : pendingInput s = .idle → t.events = [] := fun hp =>
    step_on_no_frame_events (by simp [hp]) h
  refine ⟨?_, fun f hp => ?_, hidle⟩
  · cases hp : pendingInput s with
    | reset => exact absurd hp hr
    | idle =>
      obtain ⟨-, rfl⟩ := step_eq_next_iff.1 h
      simp [nextState_of_idle hp]
    | frame f =>
      obtain ⟨_, -, htrace, -⟩ := step_on_frame_events hp h
      exact htrace
  · obtain ⟨calls, hev, -, hcalls⟩ := step_on_frame_events hp h
    refine ⟨calls, _, hev, diagnosticOf_isDiagnostic _, fun e he => ?_, fun hd => ?_, fun hd => ?_, fun hi hu => ?_⟩
    · exact (hcalls e he).imp (fun h => ⟨_, h⟩) (fun h => ⟨_, h⟩)
    · rw [hd, diagnosticOf]
    · rw [hd, diagnosticOf]
    · cases hc : commandOf (decode s.params f) with
      | none => exact absurd (decode_of_no_command hc) (by simp [hi, hu])
      | some c => exact ⟨c, specLookup_of_commandOf_decode hc, diagnosticOf_of_commandOf hc⟩

/-- Settles O49: a call stands before the diagnostic event and carries the register its operation leaves. -/
theorem outputCallsCarryTheNewRegisters : Obligations.OutputCallsCarryTheNewRegisters := by
  intro s t h
  have hcalls : ∀ e ∈ t.events, e.isDiagnostic = false → e = .dutyWrite t.level ∨ e = .enableWrite t.isOn := by
    intro e he hd
    by_cases hp : ∃ f, pendingInput s = .frame f
    · obtain ⟨f, hp⟩ := hp
      obtain ⟨calls, hev, -, hcalls⟩ := step_on_frame_events hp h
      rw [hev, List.mem_append, List.mem_singleton] at he
      obtain he | rfl := he
      · exact hcalls e he
      · simp [diagnosticOf_isDiagnostic] at hd
    · simp [step_on_no_frame_events (not_exists.1 hp) h] at he
  refine ⟨rfl, rfl, dutyWr_iff t, enWr_iff t, fun v hv => ?_, fun b hb => ?_⟩
  · simpa using hcalls _ hv rfl
  · simpa using hcalls _ hb rfl

/-- Settles O50: the diagnostic of the step is that of the decoded instruction, or none without a frame. -/
theorem diagnosticPortsReportTheOutcome : Obligations.DiagnosticPortsReportTheOutcome := by
  refine ⟨fun s t h => ⟨fun f hp => ?_, fun hp => ?_⟩, by simp [cmdKind, cmdPct], fun _ t _ => ?_⟩
  · have hd := step_on_frame_diagnostic hp h
    refine ⟨fun hv => ?_, fun hv hl => ?_, fun c hv hl => ?_⟩
    · rw [decode_of_not_valid hv, diagnosticOf] at hd
      simp [evtKind, evtFrame, evtCmdKind, evtCmdPct, hd]
    · rw [decode_of_valid_of_specLookup_none hv hl, diagnosticOf] at hd
      simp [evtKind, evtFrame, evtCmdKind, evtCmdPct, hd]
    · rw [diagnosticOf_of_commandOf ((commandOf_decode_of_valid hv).trans hl)] at hd
      simp [evtKind, evtFrame, evtCmdKind, evtCmdPct, hd]
  · have hd := diagnostic_of_no_events (step_on_no_frame_events hp h)
    simp [evtKind, evtFrame, evtCmdKind, evtCmdPct, hd]
  · have hle := evtCmdKind_le_four t
    refine ⟨?_, ?_, ?_⟩ <;> (intro hk; rw [hk] at hle; exact absurd hle (by decide))

/-- Settles O13: the ports read the result of validate, which is decided by valid. -/
theorem validatorPortsFollowTheResult : Obligations.ValidatorPortsFollowTheResult := by
  refine ⟨fun P f hv => ?_, fun P f hv => ?_, fun s f hp => ?_⟩
  · simp [fvOk, fvAddr, fvData, validate_of_valid hv, addr, data]
  · simp [fvOk, fvAddr, fvData, validate_of_not_valid hv]
  · simp [fvPorts, hp]

end Sys2Proof.Machine
end

section
/-! PROOFS. A run keeps what its steps keep, and the statement of 20_memory.md. -/

namespace Sys2Proof.Machine

/-- An invariant under which every step completes holds at the end of every run, which completes too. -/
theorem run_invariant {I : State → Prop} (hstep : ∀ s, I s → ∃ s', step s = .next s' ∧ I s')
    (k : Nat) {s : State} (h : I s) : ∃ t, Sys2Proof.core.run k s = .next t ∧ I t := by
  have hpair : ∀ s u, s = u ∧ I s → ∃ s' u', step s = .next s' ∧ step u = .next u' ∧ s' = u' ∧ I s' := by
    rintro s _ ⟨rfl, hs⟩
    obtain ⟨s', hs', hi⟩ := hstep s hs
    exact ⟨s', s', hs', hs', rfl, hi⟩
  obtain ⟨t, -, ht, -, -, hi⟩ := run_related hpair k s s ⟨rfl, h⟩
  exact ⟨t, ht, hi⟩

@[simp] theorem operate_params (i : Instr) (s : State) : (operate i s).params = s.params := by
  obtain ⟨-, h⟩ | ⟨-, h⟩ | ⟨_, -, h⟩ | h := operate_cases i s <;> simp [h]

@[simp] theorem nextState_params (s : State) : (nextState s).params = s.params := by
  cases hp : pendingInput s with
  | reset => simp [nextState_of_reset hp]
  | idle => simp [nextState_of_idle hp]
  | frame f => simp [nextState_of_frame hp]

/-- Every run from a well-formed state completes, in a well-formed state with the same parameters. -/
theorem run_of_wellFormed (k : Nat) {s : State} (h : s.wellFormed = true) :
    ∃ t, Sys2Proof.core.run k s = .next t ∧ t.wellFormed = true ∧ t.params = s.params := by
  refine run_invariant (I := fun t => t.wellFormed = true ∧ t.params = s.params) ?_ k ⟨h, rfl⟩
  rintro u ⟨hw, hp⟩
  have hu := step_of_wellFormed hw
  exact ⟨_, hu, step_wellFormed hu, (nextState_params u).trans hp⟩

/-- Settles O40: a run over an input sequence is a run from a well-formed state whose next inputs are that sequence. -/
theorem everyInputSequenceRuns : Obligations.EveryInputSequenceRuns := by
  intro ins s hw
  exact run_of_wellFormed (s := s.withInputs ins) ins.length hw

end Sys2Proof.Machine
end

section
/-! PROOFS. The fields of a frame as numbers, the valid frames of each value of `P_ADDR_CHECK` as families over their
free fields, and the three classes of R74 as sets of frames (30_encoding.md). -/

namespace Sys2Proof.Machine

/-! ### A frame is its four fields -/

theorem addr_toNat (f : Frame) : (addr f).toNat = f.toNat % 256 := by
  simp [addr, BitVec.extractLsb'_toNat]

theorem naddr_toNat (f : Frame) : (naddr f).toNat = f.toNat / 256 % 256 := by
  simp [naddr, BitVec.extractLsb'_toNat, Nat.shiftRight_eq_div_pow]

theorem data_toNat (f : Frame) : (data f).toNat = f.toNat / 65536 % 256 := by
  simp [data, BitVec.extractLsb'_toNat, Nat.shiftRight_eq_div_pow]

theorem ndata_toNat (f : Frame) : (ndata f).toNat = f.toNat / 16777216 % 256 := by
  simp [ndata, BitVec.extractLsb'_toNat, Nat.shiftRight_eq_div_pow]

theorem append_byte_toNat {n : Nat} (x : BitVec n) (b : Byte) : (x ++ b).toNat = 256 * x.toNat + b.toNat := by
  rw [BitVec.toNat_append, ← Nat.shiftLeft_add_eq_or_of_lt b.isLt, Nat.shiftLeft_eq]
  omega

/-- The byte order of R52: ADDR is the least significant byte. -/
theorem frameOf_toNat (nd d na a : Byte) :
    (frameOf nd d na a).toNat = a.toNat + 256 * na.toNat + 65536 * d.toNat + 16777216 * nd.toNat := by
  simp only [frameOf, append_byte_toNat]
  omega

@[simp] theorem addr_frameOf (nd d na a : Byte) : addr (frameOf nd d na a) = a := by
  apply BitVec.eq_of_toNat_eq
  rw [addr_toNat, frameOf_toNat]
  omega

@[simp] theorem naddr_frameOf (nd d na a : Byte) : naddr (frameOf nd d na a) = na := by
  apply BitVec.eq_of_toNat_eq
  rw [naddr_toNat, frameOf_toNat]
  omega

@[simp] theorem data_frameOf (nd d na a : Byte) : data (frameOf nd d na a) = d := by
  apply BitVec.eq_of_toNat_eq
  rw [data_toNat, frameOf_toNat]
  omega

@[simp] theorem ndata_frameOf (nd d na a : Byte) : ndata (frameOf nd d na a) = nd := by
  apply BitVec.eq_of_toNat_eq
  rw [ndata_toNat, frameOf_toNat]
  omega

theorem frameOf_fields (f : Frame) : frameOf (ndata f) (data f) (naddr f) (addr f) = f := by
  apply BitVec.eq_of_toNat_eq
  rw [frameOf_toNat, addr_toNat, naddr_toNat, data_toNat, ndata_toNat]
  omega

theorem complement8_toNat (b : Byte) : (complement8 b).toNat = 255 - b.toNat := by
  rw [complement8, show (0xFF#8 : Byte) = BitVec.allOnes 8 from rfl, BitVec.xor_allOnes, BitVec.toNat_not]

/-! ### The valid frames -/

theorem valid_iff (P : Params) (f : Frame) :
    valid P f = true ↔
      ndata f = complement8 (data f) ∧ (P.addrCheck = true → naddr f = complement8 (addr f)) := by
  cases h : P.addrCheck <;> simp [valid, dataOk, addrOk, h]

/-- The frame with the given free fields and NDATA the complement of DATA. -/
def dataPairFrame (a na d : Byte) : Frame := frameOf (complement8 d) d na a

/-- A NEC frame is valid under both values of `P_ADDR_CHECK` (R84). -/
theorem valid_necFrame (P : Params) (a d : Byte) : valid P (necFrame a d) = true := by
  simp [valid_iff, necFrame]

/-- With the address check a valid frame is the NEC frame of its ADDR and DATA (R82). -/
theorem eq_necFrame_of_valid {P : Params} (hc : P.addrCheck = true) {f : Frame} (h : valid P f = true) :
    f = necFrame (addr f) (data f) := by
  obtain ⟨hd, ha⟩ := (valid_iff P f).1 h
  rw [necFrame, ← hd, ← ha hc, frameOf_fields]

theorem valid_dataPairFrame {P : Params} (hc : P.addrCheck = false) (a na d : Byte) :
    valid P (dataPairFrame a na d) = true := by
  simp [valid_iff, dataPairFrame, hc]

/-- A valid frame is fixed by its ADDR, NADDR and DATA (R82). -/
theorem eq_dataPairFrame_of_valid {P : Params} {f : Frame} (h : valid P f = true) :
    f = dataPairFrame (addr f) (naddr f) (data f) := by
  obtain ⟨hd, -⟩ := (valid_iff P f).1 h
  rw [dataPairFrame, ← hd, frameOf_fields]

/-- With the address check, one valid frame per (ADDR, DATA) pair (R82). -/
def validEquivPairs {P : Params} (hc : P.addrCheck = true) : {f : Frame // valid P f = true} ≃ Byte × Byte where
  toFun f := (addr f.1, data f.1)
  invFun p := ⟨necFrame p.1 p.2, valid_necFrame P p.1 p.2⟩
  left_inv f := Subtype.ext (eq_necFrame_of_valid hc f.2).symm
  right_inv p := by simp [necFrame]

/-- Without it, one valid frame per (ADDR, NADDR, DATA) triple (R82). -/
def validEquivTriples {P : Params} (hc : P.addrCheck = false) :
    {f : Frame // valid P f = true} ≃ Byte × Byte × Byte where
  toFun f := (addr f.1, naddr f.1, data f.1)
  invFun p := ⟨dataPairFrame p.1 p.2.1 p.2.2, valid_dataPairFrame hc p.1 p.2.1 p.2.2⟩
  left_inv f := Subtype.ext (eq_dataPairFrame_of_valid f.2).symm
  right_inv p := by simp [dataPairFrame]

theorem card_bitVec (n : Nat) : Nat.card (BitVec n) = 2 ^ n := by
  rw [Nat.card_congr BitVec.equivFin.toEquiv, Nat.card_fin]

theorem card_valid_of_addrCheck {P : Params} (hc : P.addrCheck = true) :
    Nat.card {f : Frame // valid P f = true} = 65536 := by
  rw [Nat.card_congr (validEquivPairs hc), Nat.card_prod, card_bitVec]
  norm_num

theorem card_valid_of_no_addrCheck {P : Params} (hc : P.addrCheck = false) :
    Nat.card {f : Frame // valid P f = true} = 16777216 := by
  rw [Nat.card_congr (validEquivTriples hc), Nat.card_prod, Nat.card_prod, card_bitVec]
  norm_num

/-! ### The classes of R74 as conditions on the frame -/

theorem isLiteral_eq_false_iff (f : Frame) : isLiteral f = false ↔ ∀ row ∈ literalTable, f ≠ row.1 := by
  rw [← Bool.not_eq_true, isLiteral_iff]
  simp only [not_exists, not_and, ne_eq, eq_comm]

theorem decode_of_valid_of_not_literal {P : Params} {f : Frame} (hv : valid P f = true) (hl : isLiteral f = false) :
    decode P f = .unknown f := by
  rw [decode_of_valid hv, lookup_of_not_literal hl]

theorem decode_of_valid_row {P : Params} {row : Frame × Instr} (hv : valid P row.1 = true) (hr : row ∈ literalTable) :
    decode P row.1 = row.2 := by
  rw [decode_of_valid hv, lookup_of_row hr]

/-- A valid literal has a command, so it is neither INVALID nor UNKNOWN. -/
theorem commandOf_decode_isSome_iff (P : Params) (f : Frame) :
    (commandOf (decode P f)).isSome = true ↔ valid P f = true ∧ isLiteral f = true := by
  cases hv : valid P f with
  | false => simp [decode_of_not_valid hv, commandOf, percentOf]
  | true =>
    cases hl : isLiteral f with
    | false => simp [decode_of_valid_of_not_literal hv hl, commandOf, percentOf]
    | true =>
      obtain ⟨row, hr, rfl⟩ := (isLiteral_iff f).1 hl
      simp [decode_of_valid_row hv hr, commandOf_isSome_of_row hr]

theorem ne_discarded_of_commandOf {i : Instr} (h : (commandOf i).isSome = true) (f : Frame) :
    i ≠ .invalid f ∧ i ≠ .unknown f := by
  constructor <;> (rintro rfl; simp [commandOf, percentOf] at h)

theorem decode_eq_invalid_iff (P : Params) (f : Frame) : decode P f = .invalid f ↔ valid P f = false := by
  refine ⟨fun h => ?_, decode_of_not_valid⟩
  cases hv : valid P f with
  | false => rfl
  | true =>
    cases hl : isLiteral f with
    | false => simp [decode_of_valid_of_not_literal hv hl] at h
    | true => exact absurd h (ne_discarded_of_commandOf ((commandOf_decode_isSome_iff P f).2 ⟨hv, hl⟩) f).1

theorem decode_eq_unknown_iff (P : Params) (f : Frame) :
    decode P f = .unknown f ↔ valid P f = true ∧ isLiteral f = false := by
  refine ⟨fun h => ?_, fun ⟨hv, hl⟩ => decode_of_valid_of_not_literal hv hl⟩
  cases hv : valid P f with
  | false => simp [decode_of_not_valid hv] at h
  | true =>
    cases hl : isLiteral f with
    | false => exact ⟨rfl, rfl⟩
    | true => exact absurd h (ne_discarded_of_commandOf ((commandOf_decode_isSome_iff P f).2 ⟨hv, hl⟩) f).2

/-- A frame is a command exactly when it is a valid literal. -/
theorem decode_isCommand_iff (P : Params) (f : Frame) :
    (decode P f ≠ .invalid f ∧ decode P f ≠ .unknown f) ↔ valid P f = true ∧ isLiteral f = true := by
  rw [ne_eq, ne_eq, decode_eq_invalid_iff, decode_eq_unknown_iff]
  cases valid P f <;> simp

theorem valid_of_isLiteral (P : Params) {f : Frame} (h : isLiteral f = true) : valid P f = !P.addrCheck := by
  obtain ⟨row, hr, rfl⟩ := (isLiteral_iff f).1 h
  exact valid_literal P hr

/-- With the address check no frame is a command (R79). -/
theorem not_isCommand_of_addrCheck {P : Params} (hc : P.addrCheck = true) (f : Frame) :
    ¬(decode P f ≠ .invalid f ∧ decode P f ≠ .unknown f) := by
  rw [decode_isCommand_iff]
  rintro ⟨hv, hl⟩
  simp [valid_of_isLiteral P hl, hc] at hv

/-! ### The sizes of the classes -/

/-- Every frame is valid or INVALID, not both. -/
theorem card_valid_add_card_invalid (P : Params) :
    Nat.card {f : Frame // valid P f = true} + Nat.card {f : Frame // decode P f = .invalid f} = 4294967296 := by
  have hcompl : {f : Frame | decode P f = .invalid f} = {f | valid P f = true}ᶜ := by
    ext f
    simp [decode_eq_invalid_iff]
  have h := Set.ncard_add_ncard_compl {f : Frame | valid P f = true}
  rw [← hcompl, card_bitVec] at h
  exact h

/-- Every valid frame is a command or UNKNOWN, not both. -/
theorem card_command_add_card_unknown (P : Params) :
    Nat.card {f : Frame // decode P f ≠ .invalid f ∧ decode P f ≠ .unknown f} +
      Nat.card {f : Frame // decode P f = .unknown f} = Nat.card {f : Frame // valid P f = true} := by
  have hcommand : {f : Frame | decode P f ≠ .invalid f ∧ decode P f ≠ .unknown f} =
      {f | valid P f = true} ∩ {f | isLiteral f = true} := Set.ext (decode_isCommand_iff P)
  have hunknown : {f : Frame | decode P f = .unknown f} = {f | valid P f = true} \ {f | isLiteral f = true} := by
    ext f
    simp [decode_eq_unknown_iff]
  have h := Set.ncard_inter_add_ncard_sdiff_eq_ncard {f : Frame | valid P f = true} {f | isLiteral f = true}
  rw [← hcommand, ← hunknown] at h
  exact h

theorem card_isLiteral : Nat.card {f : Frame // isLiteral f = true} = 14 := by
  have hset : {f : Frame | isLiteral f = true} = ((literalTable.map Prod.fst).toFinset : Set Frame) := by
    ext f
    simp [isLiteral_iff]
  have hnodup : (literalTable.map Prod.fst).Nodup := by decide
  have h := Set.ncard_coe_finset (literalTable.map Prod.fst).toFinset
  rw [← hset, List.toFinset_card_of_nodup hnodup] at h
  exact h

theorem card_command_of_addrCheck {P : Params} (hc : P.addrCheck = true) :
    Nat.card {f : Frame // decode P f ≠ .invalid f ∧ decode P f ≠ .unknown f} = 0 := by
  have := Subtype.isEmpty_of_false (not_isCommand_of_addrCheck hc)
  exact Nat.card_of_isEmpty

theorem card_command_of_no_addrCheck {P : Params} (hc : P.addrCheck = false) :
    Nat.card {f : Frame // decode P f ≠ .invalid f ∧ decode P f ≠ .unknown f} = 14 := by
  have hliteral (f : Frame) :
      (decode P f ≠ .invalid f ∧ decode P f ≠ .unknown f) ↔ isLiteral f = true := by
    rw [decode_isCommand_iff, and_iff_right_iff_imp]
    intro hl
    simp [valid_of_isLiteral P hl, hc]
  rw [Nat.card_congr (Equiv.subtypeEquivRight hliteral), card_isLiteral]

end Sys2Proof.Machine
end

section
/-! PROOFS. The statements of 30_encoding.md on classes, literals and pseudo-instructions. -/

namespace Sys2Proof.Machine

/-- Settles O3: decoding tests validity first and then the table. -/
theorem framesClassifyInThePrescribedOrder : Obligations.FramesClassifyInThePrescribedOrder := by
  refine fun P f => ⟨decode_of_not_valid, ?_, fun hv hne => ?_⟩
  · rintro hv row hr rfl
    exact decode_of_valid_row hv hr
  · exact decode_of_valid_of_not_literal hv ((isLiteral_eq_false_iff f).2 hne)

/-- Settles O6: a literal has the data relation alone, so its validity is that the address pair is not checked. -/
theorem literalsAreValidOnlyWithoutAddressCheck : Obligations.LiteralsAreValidOnlyWithoutAddressCheck := by
  refine ⟨fun row hr => literal_checks hr, fun P hc => ⟨fun row hr => ?_, fun f => ?_⟩, fun P hc row hr => ?_⟩
  · exact decode_of_not_valid (by simp [valid_literal P hr, hc])
  · by_contra hcommand
    exact not_isCommand_of_addrCheck hc f (not_or.1 hcommand)
  · have hv : valid P row.1 = true := by simp [valid_literal P hr, hc]
    exact ⟨hv, decode_of_valid_row hv hr⟩

/-- Settles O8: the valid frames are the NEC frames, or those with the data relation; the commands among them are the
valid literals, and the other two classes are what is left. -/
theorem classSizesAreThoseOfTheTable : Obligations.ClassSizesAreThoseOfTheTable := by
  refine ⟨fun P hc => ?_, fun P hc => ?_⟩
  · have hvalid := card_valid_of_addrCheck hc
    have hcommand := card_command_of_addrCheck hc
    have hinvalid := card_valid_add_card_invalid P
    have hunknown := card_command_add_card_unknown P
    refine ⟨hvalid, hcommand, by omega, by omega, fun a d => ⟨necFrame a d, ?_, ?_⟩⟩
    · exact ⟨valid_necFrame P a d, by simp [necFrame]⟩
    · rintro f ⟨hv, rfl, rfl⟩
      exact eq_necFrame_of_valid hc hv
  · have hvalid := card_valid_of_no_addrCheck hc
    have hcommand := card_command_of_no_addrCheck hc
    have hinvalid := card_valid_add_card_invalid P
    have hunknown := card_command_add_card_unknown P
    refine ⟨hvalid, hcommand, by omega, by omega, fun a na d => ⟨dataPairFrame a na d, ?_, ?_⟩⟩
    · exact ⟨valid_dataPairFrame hc a na d, by simp [dataPairFrame]⟩
    · rintro f ⟨hv, rfl, rfl, rfl⟩
      exact eq_dataPairFrame_of_valid hv

/-- A table literal is the NECX frame of 0xEF and its DATA (R84). -/
theorem necxFrame_of_row {row : Frame × Instr} (h : row ∈ literalTable) :
    necxFrame 0xEF#8 (data row.1) = row.1 := by
  revert row; decide

/-- Settles O11: both expansions are frames of four known fields, so their numbers are sums of bytes. -/
theorem pseudoInstructionsExpandToFrames : Obligations.PseudoInstructionsExpandToFrames := by
  refine ⟨fun a d => ⟨necFrame a d, rfl, ?_, fun P => ?_⟩, fun n d => ⟨necxFrame n d, rfl, ?_⟩, fun row hr => ?_,
    fun P => ⟨necFrame 0x00#8 0x03#8, rfl, ?_⟩, by decide⟩
  · rw [necFrame, frameOf_toNat, complement8_toNat, complement8_toNat]
  · exact ⟨valid_necFrame P a d, by simp [necFrame]⟩
  · rw [necxFrame, frameOf_toNat, complement8_toNat]
    simp
  · rw [assemble, necxFrame_of_row hr]
  · exact decode_of_valid_of_not_literal (valid_necFrame P _ _) (by decide)

/-- Settles O7: the literals' data bytes by evaluation, and no frame outside the table is a row, the two that continue
the progressions among them. -/
theorem percentDataBytesFormTwoProgressions : Obligations.PercentDataBytesFormTwoProgressions := by
  refine ⟨by decide, by decide, fun f hne => ?_, fun P hv => ?_, fun P hv => ?_⟩
  · exact lookup_of_not_literal ((isLiteral_eq_false_iff f).2 hne)
  · exact decode_of_valid_of_not_literal hv (by decide)
  · exact decode_of_valid_of_not_literal hv (by decide)

end Sys2Proof.Machine
end

section
/-! PROOFS. The statements of 40_frame_validator.md on `validate` and on the error masks a valid frame does not
reveal. -/

namespace Sys2Proof.Machine

/-! ### Validity on the number of the frame -/

/-- Byte k by shift and mask is digit k in base 256. -/
theorem shiftRight_and_byteMask (n k : Nat) : (n >>> (8 * k)) &&& 0xFF = n / 256 ^ k % 256 := by
  rw [show 0xFF = 2 ^ 8 - 1 from rfl, Nat.and_two_pow_sub_one_eq_mod, Nat.shiftRight_eq_div_pow, pow_mul]
  norm_num

theorem eq_complement8_iff_toNat (a b : Byte) : a = complement8 b ↔ a.toNat = b.toNat ^^^ 0xFF := by
  rw [← BitVec.toNat_inj, complement8, BitVec.toNat_xor, show (0xFF#8).toNat = 0xFF from rfl]

/-- R72 on the numbers of the four fields. -/
theorem valid_iff_toNat (P : Params) (f : Frame) :
    valid P f = true ↔ (ndata f).toNat = (data f).toNat ^^^ 0xFF ∧
      ((naddr f).toNat = (addr f).toNat ^^^ 0xFF ∨ P.addrCheck = false) := by
  rw [valid_iff, eq_complement8_iff_toNat, eq_complement8_iff_toNat, ← Bool.not_eq_true, or_comm, imp_iff_not_or]

/-- Settles O12: bytes 0 to 3 are the numbers of ADDR, NADDR, DATA and NDATA, and validate is decided by valid. -/
theorem validateByShiftAndMask : Obligations.ValidateByShiftAndMask := by
  refine ⟨fun P f byte hbyte => ?_, fun P hc => ?_⟩
  · have haddr : byte 0 = (addr f).toNat := by rw [hbyte, shiftRight_and_byteMask, addr_toNat, pow_zero, Nat.div_one]
    have hnaddr : byte 1 = (naddr f).toNat := by rw [hbyte, shiftRight_and_byteMask, naddr_toNat, pow_one]
    have hdata : byte 2 = (data f).toNat := by rw [hbyte, shiftRight_and_byteMask, data_toNat]; norm_num
    have hndata : byte 3 = (ndata f).toNat := by rw [hbyte, shiftRight_and_byteMask, ndata_toNat]; norm_num
    rw [haddr, hnaddr, hdata, hndata, ← valid_iff_toNat]
    exact ⟨fun hv => ⟨_, validate_of_valid hv, rfl, rfl⟩, fun hv => validate_of_not_valid (by simpa using hv)⟩
  · have hv : valid P 0xFC03EF00#32 = true := by rw [valid_of_isLiteral P rfl, hc, Bool.not_false]
    rw [validate_of_valid hv, Option.isSome_some]

/-! ### Error masks -/

@[simp] theorem addr_xor (f e : Frame) : addr (f ^^^ e) = addr f ^^^ addr e := BitVec.extractLsb'_xor

@[simp] theorem naddr_xor (f e : Frame) : naddr (f ^^^ e) = naddr f ^^^ naddr e := BitVec.extractLsb'_xor

@[simp] theorem data_xor (f e : Frame) : data (f ^^^ e) = data f ^^^ data e := BitVec.extractLsb'_xor

@[simp] theorem ndata_xor (f e : Frame) : ndata (f ^^^ e) = ndata f ^^^ ndata e := BitVec.extractLsb'_xor

theorem complement8_xor (a b : Byte) : complement8 (a ^^^ b) = complement8 a ^^^ b := by
  rw [complement8, complement8, BitVec.xor_assoc, BitVec.xor_comm b, ← BitVec.xor_assoc]

/-- An error keeps a complement pair exactly when it flips the same bits of both bytes. -/
theorem complement8_xor_eq_iff (b e' e : Byte) : complement8 b ^^^ e' = complement8 (b ^^^ e) ↔ e' = e := by
  rw [complement8_xor, BitVec.xor_right_inj]

/-- R106, the zero mask included. -/
theorem valid_xor_iff {P : Params} {f : Frame} (h : valid P f = true) (e : Frame) :
    valid P (f ^^^ e) = true ↔ ndata e = data e ∧ (P.addrCheck = true → naddr e = addr e) := by
  obtain ⟨hdata, haddr⟩ := (valid_iff P f).1 h
  rw [valid_iff, ndata_xor, data_xor, naddr_xor, addr_xor, hdata, complement8_xor_eq_iff]
  refine and_congr_right fun _ => forall_congr' fun hc => ?_
  rw [haddr hc, complement8_xor_eq_iff]

/-- Masks are counted by the frames they lead to: XOR with f is a bijection that takes 0 to f. -/
theorem card_undetectedMasks {P : Params} {f : Frame} (h : valid P f = true) :
    Nat.card {e : Frame // e ≠ 0 ∧ valid P (f ^^^ e) = true} = Nat.card {g : Frame // valid P g = true} - 1 := by
  have hinj : Function.Injective (f ^^^ ·) := fun _ _ => (BitVec.xor_right_inj f).1
  have himage : (f ^^^ ·) '' {e : Frame | e ≠ 0 ∧ valid P (f ^^^ e) = true} = {g | valid P g = true} \ {f} := by
    ext g
    constructor
    · rintro ⟨e, ⟨hne, hv⟩, rfl⟩
      exact ⟨hv, by simpa using hne⟩
    · rintro ⟨hv, hne⟩
      have hg : f ^^^ (f ^^^ g) = g := by rw [← BitVec.xor_assoc, BitVec.xor_self, BitVec.zero_xor]
      refine ⟨f ^^^ g, ⟨fun hzero => hne ?_, hg.symm ▸ hv⟩, hg⟩
      rw [← hg, hzero]
      simp
  have hcard := Set.ncard_sdiff_singleton_of_mem (s := {g : Frame | valid P g = true}) h
  rw [← himage, Set.ncard_image_of_injective _ hinj] at hcard
  exact hcard

/-- Settles O14: the masks by the XOR of the fields, their number by that of the other valid frames. -/
theorem undetectedErrorMasks : Obligations.UndetectedErrorMasks := by
  refine ⟨fun P f e hv _ => valid_xor_iff hv e, fun P f hv => ?_⟩
  rw [card_undetectedMasks hv]
  cases hc : P.addrCheck with
  | true => rw [card_valid_of_addrCheck hc]; rfl
  | false => rw [card_valid_of_no_addrCheck hc]; rfl

/-! ### Single-bit errors -/

/-- A single bit outside the DATA pair leaves both its bytes 0; inside, it stands in one of them alone. -/
theorem ndata_eq_data_bit_iff : ∀ k < 32, ndata (1#32 <<< k) = data (1#32 <<< k) ↔ k < 16 := by
  decide

theorem naddr_eq_addr_bit_iff : ∀ k < 32, naddr (1#32 <<< k) = addr (1#32 <<< k) ↔ 16 ≤ k := by
  decide

/-- One flipped bit goes unseen only in the address bytes, and there only without the check. -/
theorem valid_flip_iff {P : Params} {f : Frame} (h : valid P f = true) {k : Nat} (hk : k < 32) :
    valid P (f ^^^ (1#32 <<< k)) = true ↔ k < 16 ∧ P.addrCheck = false := by
  rw [valid_xor_iff h, ndata_eq_data_bit_iff k hk, naddr_eq_addr_bit_iff k hk, ← Bool.not_eq_true]
  exact and_congr_right fun hlow => ⟨fun h hc => Nat.not_le.2 hlow (h hc), fun hc h => absurd h hc⟩

/-- Settles O15: each clause reads off which flips go unseen. -/
theorem singleBitFlipsOfAValidFrame : Obligations.SingleBitFlipsOfAValidFrame := by
  intro P f k hv hk
  have hflip := valid_flip_iff hv hk
  refine ⟨fun hc => ?_, fun _ hhigh => ?_, fun hc hlow => hflip.2 ⟨hlow, hc⟩⟩
  · rw [Bool.eq_false_iff, ne_eq, hflip, hc]
    simp
  · rw [Bool.eq_false_iff, ne_eq, hflip]
    omega

end Sys2Proof.Machine
end

section
/-! PROOFS. The statements of 41_command_decode.md: the command table, and the percents an accepted command carries. -/

namespace Sys2Proof.Machine

/-- Settles O4: the rows by evaluation of the table, and the last clause because encoding inverts lookup. -/
theorem lookupIsTheCommandTable : Obligations.LookupIsTheCommandTable := by
  refine ⟨rfl, rfl, rfl, rfl, rfl, rfl, rfl, rfl, rfl, rfl, rfl, rfl, rfl, rfl, fun f hf => ?_,
    fun f _ => (encode_lookup f).symm⟩
  refine lookup_of_not_literal ((isLiteral_eq_false_iff f).2 ?_)
  rintro row hr rfl
  have hmem : row.1 ∈ literalTable.map Prod.fst := List.mem_map_of_mem hr
  exact hf hmem

/-! ### The percents of the executed commands (R126) -/

theorem commandOf_of_diagnosticOf {i : Instr} {c : Command} (h : diagnosticOf i = .accept c) :
    commandOf i = some c := by
  cases i <;> simp only [diagnosticOf, Event.accept.injEq, reduceCtorEq] at h <;> subst h <;> rfl

theorem percentOf_of_commandOf {i : Instr} {p : BitVec 7} (h : commandOf i = some (.setPercent p)) :
    percentOf i = some p := by
  cases i <;> simp [commandOf, percentOf] at h <;> subst h <;> rfl

theorem mem_percentSet_of_commandOf {i : Instr} {p : BitVec 7} (h : commandOf i = some (.setPercent p)) :
    p ∈ percentSet :=
  percentOf_mem (percentOf_of_commandOf h)

/-- A step accepts only the command its frame decodes to. -/
theorem commandOf_of_accept_mem_events {s t : State} {c : Command} (h : step s = .next t)
    (hc : Event.accept c ∈ t.events) :
    ∃ f, pendingInput s = .frame f ∧ commandOf (decode s.params f) = some c := by
  by_cases hp : ∃ f, pendingInput s = .frame f
  · obtain ⟨f, hp⟩ := hp
    obtain ⟨calls, hev, -, hcalls⟩ := step_on_frame_events hp h
    rw [hev, List.mem_append, List.mem_singleton] at hc
    obtain hc | hc := hc
    · simpa using hcalls _ hc
    · exact ⟨f, hp, commandOf_of_diagnosticOf hc.symm⟩
  · simp [step_on_no_frame_events (not_exists.1 hp) h] at hc

theorem exists_row_of_mem_percentSet {p : BitVec 7} (h : p ∈ percentSet) :
    ∃ row ∈ literalTable, commandOf row.2 = some (.setPercent p) := by
  revert p; decide

/-- Settles O52: an accepted command and a command of the case list are both the command of an instruction, and each
percent has its row. -/
theorem acceptedPercentsAreTheTenValues : Obligations.AcceptedPercentsAreTheTenValues := by
  refine ⟨fun s t p h hp => ?_, fun p hp => ?_, fun f p hf => ?_⟩
  · obtain ⟨f, -, hc⟩ := commandOf_of_accept_mem_events h hp
    exact mem_percentSet_of_commandOf hc
  · obtain ⟨row, hr, hc⟩ := exists_row_of_mem_percentSet hp
    exact ⟨row.1, (specLookup_of_row hr).trans hc⟩
  · rw [specLookup_eq_commandOf_lookup] at hf
    exact mem_percentSet_of_commandOf hf

end Sys2Proof.Machine
end

section
/-! PROOFS. LEVEL_FN and the STEP adjustment as arithmetic, the operations of LightController as whole-state equations,
and the statements of 42_brightness_commands.md about them (R150 to R156). -/

namespace Sys2Proof.Machine

/-! ### LEVEL_FN -/

theorem levelOf_truncSat_toNat {s : Nat} (h : s ≤ 100) :
    (levelOf .truncSat (BitVec.ofNat 7 s)).toNat = min (s * 65536 / 100) 65535 := by
  have hs : (BitVec.ofNat 7 s).toNat = s := Nat.mod_eq_of_lt (by omega)
  rw [levelOf, levelTruncSat, hs]
  exact Nat.mod_eq_of_lt (by omega)

theorem levelOf_nearestSat_toNat {s : Nat} (h : s ≤ 100) :
    (levelOf .nearestSat (BitVec.ofNat 7 s)).toNat = min ((s * 65536 + 50) / 100) 65535 := by
  have hs : (BitVec.ofNat 7 s).toNat = s := Nat.mod_eq_of_lt (by omega)
  rw [levelOf, levelNearestSat, hs]
  exact Nat.mod_eq_of_lt (by omega)

/-- Settles O16: both levels by their formulas, whose bounds are division by 100; a tie would make an even number
odd. -/
theorem levelFunctionsAreFloorAndNearest : Obligations.LevelFunctionsAreFloorAndNearest := by
  intro s _ hhi t n ht hn
  rw [levelOf_truncSat_toNat hhi] at ht
  rw [levelOf_nearestSat_toNat hhi] at hn
  exact ⟨ht, hn, fun hlt => by omega, fun heq => by omega⟩

/-! ### The STEP adjustment (R151) -/

theorem clamp_eq_max_min (x : Int) : clamp x 1 100 = max 1 (min 100 x) := by
  unfold clamp
  split
  · omega
  · split <;> omega

/-- STEP after an adjustment is the only 7-bit number with the clamped sum as its value. -/
theorem eq_adjustedStep_iff (st' st : BitVec 7) (delta : Int) :
    st' = adjustedStep st delta ↔ (st'.toNat : Int) = max 1 (min 100 ((st.toNat : Int) + delta)) := by
  rw [← clamp_eq_max_min, ← adjustedStep_toNat, Nat.cast_inj, BitVec.toNat_inj]

theorem adjustedStep_up_toNat (st : BitVec 7) : (adjustedStep st 1).toNat = min (st.toNat + 1) 100 := by
  have h := (eq_adjustedStep_iff _ st 1).1 rfl
  omega

theorem adjustedStep_down_toNat (st : BitVec 7) :
    (adjustedStep st (-1)).toNat = min (max (st.toNat - 1) 1) 100 := by
  have h := (eq_adjustedStep_iff _ st (-1)).1 rfl
  omega

theorem adjustStep_eq {delta : Int} (h : delta = 1 ∨ delta = -1) (s : State) :
    adjustStep delta s = .next (writeStep (adjustedStep s.stepReg delta) s) := by
  obtain rfl | rfl := h
  · exact adjustStep_up s
  · exact adjustStep_down s

/-- Settles O18: the sum is taken in the integers, and the new STEP is its clamp. -/
theorem adjustStepClampsAndNeverWraps : Obligations.AdjustStepClampsAndNeverWraps := by
  intro s delta hdelta
  refine ⟨fun _ => by omega, _, adjustStep_eq hdelta s, ?_, rfl⟩
  exact (eq_adjustedStep_iff _ s.stepReg delta).1 rfl

/-! ### The operations as one update and their events in order -/

/-- Emit several events, the first of the list first. -/
def emitAll (es : List Event) (s : State) : State :=
  { s with events := s.events ++ es, trace := s.trace ++ es }

theorem emit_emitAll (e : Event) (es : List Event) (s : State) :
    emit e (emitAll es s) = emitAll (es ++ [e]) s := by
  simp [emit, emitAll]

theorem turnOn_eq (s : State) :
    turnOn s = emitAll [.dutyWrite s.level, .enableWrite true] { s with isOn := true } :=
  emit_emitAll _ [.dutyWrite s.level] _

theorem turnOff_eq (s : State) : turnOff s = emitAll [.enableWrite false] { s with isOn := false } := rfl

theorem writeStep_eq (st : BitVec 7) (s : State) :
    writeStep st s = emitAll [.dutyWrite (levelOf s.params.levelFn st)]
      { s with stepReg := st, level := levelOf s.params.levelFn st } := rfl

/-- Settles O19: each operation as one update; a repeat writes the same value to IS_ON. -/
theorem switchOperationsKeepBrightness : Obligations.SwitchOperationsKeepBrightness :=
  fun s => ⟨turnOn_eq s, turnOff_eq s, rfl, rfl⟩

/-- Settles O20: within their contracts both operations are writeStep, of p and of the clamped sum. -/
theorem brightnessOperationsWriteStepAndLevel : Obligations.BrightnessOperationsWriteStepAndLevel := by
  refine ⟨fun s p hp => ?_, fun s delta st hdelta hst => ?_⟩
  · exact (setPercent_eq p s).trans (if_pos hp)
  · rw [adjustStep_eq hdelta, ← (eq_adjustedStep_iff st s.stepReg delta).2 hst, writeStep_eq]
    rfl

end Sys2Proof.Machine
end

section
/-! PROOFS. The statements of 42_brightness_commands.md about each instruction (R160 to R175). -/

namespace Sys2Proof.Machine

/-- Settles O22: the operation's events, then Accept. -/
theorem turnOnResult : Obligations.TurnOnResult := by
  refine ⟨rfl, rfl, fun s => ?_⟩
  rw [exec_turnOn, turnOn_eq, emit_emitAll]
  rfl

/-- Settles O23: the operation's event, then Accept. -/
theorem turnOffResult : Obligations.TurnOffResult := by
  refine ⟨rfl, rfl, fun s => ?_⟩
  rw [exec_turnOff, turnOff_eq, emit_emitAll]
  rfl

/-- What a brightness command leaves: STEP and LEVEL written together, the duty write, then its event. -/
theorem emit_writeStep (e : Event) (st : BitVec 7) (s : State) :
    emit e (writeStep st s) = emitAll [.dutyWrite (levelOf s.params.levelFn st), e]
      { s with stepReg := st, level := levelOf s.params.levelFn st } := by
  rw [writeStep_eq, emit_emitAll]
  rfl

/-- Settles O24: the STEP named by its value is that of adjustStep(+1). -/
theorem brightnessUpResult : Obligations.BrightnessUpResult := by
  refine ⟨rfl, rfl, fun s st hst => ?_⟩
  obtain rfl : st = adjustedStep s.stepReg 1 :=
    BitVec.eq_of_toNat_eq (hst.trans (adjustedStep_up_toNat _).symm)
  rw [exec_brUp, emit_writeStep]
  rfl

/-- Settles O25: the STEP named by its value is that of adjustStep(-1). -/
theorem brightnessDownResult : Obligations.BrightnessDownResult := by
  refine ⟨rfl, rfl, fun s st hst => ?_⟩
  obtain rfl : st = adjustedStep s.stepReg (-1) :=
    BitVec.eq_of_toNat_eq (hst.trans (adjustedStep_down_toNat _).symm)
  rw [exec_brDown, emit_writeStep]
  rfl

/-- Settles O26: each row's frame, percent and two levels by evaluation, the effect by that of every SETPCT. -/
theorem setPercentResults : Obligations.SetPercentResults := by
  intro row hrow
  have hdata : encode row.2.1 = row.1 ∧ lookup row.1 = row.2.1 ∧ percentOf row.2.1 = some row.2.2.1 ∧
      levelOf .truncSat row.2.2.1 = row.2.2.2.1 ∧ levelOf .nearestSat row.2.2.1 = row.2.2.2.2 := by
    revert row; decide
  obtain ⟨hencode, hlookup, hpercent, htrunc, hnearest⟩ := hdata
  refine ⟨hencode, hlookup, fun s lv hlv => ?_⟩
  have hlevel : levelOf s.params.levelFn row.2.2.1 = lv := by
    rw [hlv]
    cases s.params.levelFn with
    | truncSat => exact htrunc
    | nearestSat => exact hnearest
  rw [exec_setPct hpercent, emit_writeStep, hlevel]
  rfl

theorem not_valid_of_not_dataOk {f : Frame} (h : dataOk f = false) (P : Params) : valid P f = false := by
  simp [valid, h]

/-- Settles O27: the two frames break the data relation, and a literal the address relation. -/
theorem invalidFrameResult : Obligations.InvalidFrameResult := by
  refine ⟨fun P f => decode_of_not_valid, fun P => ⟨?_, ?_⟩, fun P hc row hr => ?_, fun s f => exec_invalid f s⟩
  · exact not_valid_of_not_dataOk (by decide) P
  · exact not_valid_of_not_dataOk (by decide) P
  · rw [valid_literal P hr, hc, Bool.not_true]

/-- Settles O28: with the address check a valid frame is no literal. -/
theorem unknownFrameResult : Obligations.UnknownFrameResult := by
  refine ⟨fun P f hv hl => (decode_of_valid hv).trans hl, fun P f hc hv => ?_, fun s f => exec_unknown f s⟩
  refine decode_of_valid_of_not_literal hv (Bool.eq_false_iff.2 fun hl => ?_)
  simp [valid_of_isLiteral P hl, hc] at hv

end Sys2Proof.Machine
end

section
/-! PROOFS. The step against the spec's function `Step(P, S, in)`, and runs over repeated commands: the statements of
42_brightness_commands.md on R157, R158 and R176 to R178. -/

namespace Sys2Proof.Machine

/-! ### A step on a state whose next input is given -/

theorem pendingInput_of_cons {s : State} {i : Input} {rest : List Input} (h : s.inputs = i :: rest) :
    pendingInput s = i := by
  rw [pendingInput, h, List.headD_cons]

theorem takeInput_of_cons {s : State} {i : Input} {rest : List Input} (h : s.inputs = i :: rest) :
    takeInput s = { s with inputs := rest, events := [] } := by
  rw [takeInput, h, List.tail_cons]

/-- Settles O30: an idle step only takes its input, and no event is left to report. -/
theorem idleStepChangesNothing : Obligations.IdleStepChangesNothing := by
  intro s rest hw hin
  have hnext : nextState s = { s with inputs := rest, events := [] } :=
    (nextState_of_idle (pendingInput_of_cons hin)).trans (takeInput_of_cons hin)
  have hnone : diagnostic (nextState s) = none := diagnostic_of_no_events (by rw [hnext])
  exact ⟨_, step_of_wellFormed hw, hnext, by rw [evtKind, hnone]⟩

/-- Settles O36: no step from a well-formed state is refused, and every step ends well-formed. -/
theorem everyStepCompletesWellFormed : Obligations.EveryStepCompletesWellFormed := by
  intro s hw
  have hstep := step_of_wellFormed hw
  exact ⟨_, hstep, step_wellFormed hstep⟩

@[simp] theorem operate_inputs (i : Instr) (s : State) : (operate i s).inputs = s.inputs := by
  obtain ⟨-, h⟩ | ⟨-, h⟩ | ⟨_, -, h⟩ | h := operate_cases i s <;> simp [h]

@[simp] theorem nextState_inputs (s : State) : (nextState s).inputs = s.inputs.tail := by
  cases hp : pendingInput s with
  | reset => simp [nextState_of_reset hp]
  | idle => simp [nextState_of_idle hp]
  | frame f => simp [nextState_of_frame hp]

/-! ### The spec's function, by the class of the frame -/

theorem eq_complement8_iff_add (a b : Byte) : a = complement8 b ↔ a.toNat + b.toNat = 255 := by
  rw [← BitVec.toNat_inj, complement8_toNat]
  omega

/-- The validity test of the transcription, on the bytes of the frame's number, is `valid`. -/
theorem valid_iff_byte_sums (P : Params) (f : Frame) :
    valid P f = true ↔
      ((f.toNat >>> (8 * 3)) &&& 0xFF) + ((f.toNat >>> (8 * 2)) &&& 0xFF) = 255 ∧
      (P.addrCheck = true → ((f.toNat >>> (8 * 1)) &&& 0xFF) + ((f.toNat >>> (8 * 0)) &&& 0xFF) = 255) := by
  rw [valid_iff, eq_complement8_iff_add, eq_complement8_iff_add, addr_toNat, naddr_toNat, data_toNat, ndata_toNat]
  simp only [shiftRight_and_byteMask]
  norm_num

theorem specStep_of_not_valid {P : Params} {f : Frame} (hv : valid P f = false) (S : Light) :
    specStep P S (some f) = (S, [.invalidFrame f]) := by
  have h := mt (valid_iff_byte_sums P f).2 (by simp [hv])
  exact if_pos h

theorem specStep_of_unknown {P : Params} {f : Frame} (hv : valid P f = true) (hl : specLookup f = none) (S : Light) :
    specStep P S (some f) = (S, [.unknownCommand f]) := by
  have h := not_not_intro ((valid_iff_byte_sums P f).1 hv)
  exact (if_neg h).trans (by rw [hl])

theorem specStep_of_command {P : Params} {f : Frame} {c : Command} (hv : valid P f = true)
    (hl : specLookup f = some c) (S : Light) :
    specStep P S (some f) = ((specExec P S c).1, (specExec P S c).2 ++ [.accept c]) := by
  have h := not_not_intro ((valid_iff_byte_sums P f).1 hv)
  exact (if_neg h).trans (by rw [hl])

/-! ### The operations against those of the spec -/

theorem adjustedStep_up_eq (st : BitVec 7) : adjustedStep st 1 = BitVec.ofNat 7 (min (st.toNat + 1) 100) := by
  apply BitVec.eq_of_toNat_eq
  rw [adjustedStep_up_toNat, BitVec.toNat_ofNat]
  omega

/-- Clamping below is enough for a decrement, for a legal STEP. -/
theorem adjustedStep_down_of_legal {st : BitVec 7} (h : st.toNat ≤ 100) :
    adjustedStep st (-1) = BitVec.ofNat 7 (max (st.toNat - 1) 1) := by
  apply BitVec.eq_of_toNat_eq
  rw [adjustedStep_down_toNat, BitVec.toNat_ofNat]
  omega

/-- An operation of the machine is the spec's, on the registers and on the calls. -/
theorem operate_eq_specExec {i : Instr} {c : Command} (hc : commandOf i = some c) {s : State}
    (hlegal : s.stepReg.toNat ≤ 100) :
    (operate i s).light = (specExec s.params s.light c).1 ∧
      (operate i s).events = s.events ++ (specExec s.params s.light c).2 := by
  cases i <;> cases hc
  case turnOn => exact ⟨rfl, congrArg State.events (turnOn_eq s)⟩
  case brUp =>
    rw [specExec, ← adjustedStep_up_eq]
    exact ⟨rfl, rfl⟩
  case brDown =>
    rw [specExec, ← adjustedStep_down_of_legal (st := s.light.step) hlegal]
    exact ⟨rfl, rfl⟩
  all_goals exact ⟨rfl, rfl⟩

/-- One step on a frame, class by class (R157). -/
theorem nextState_eq_specStep {s : State} {f : Frame} (hw : s.wellFormed = true) (hp : pendingInput s = .frame f) :
    ((nextState s).light, (nextState s).events) = specStep s.params s.light (some f) := by
  rw [nextState_of_frame hp]
  cases hv : valid s.params f with
  | false =>
    rw [decode_of_not_valid hv, specStep_of_not_valid hv]
    rfl
  | true =>
    cases hl : specLookup f with
    | none =>
      rw [decode_of_valid_of_specLookup_none hv hl, specStep_of_unknown hv hl]
      rfl
    | some c =>
      have hc : commandOf (decode s.params f) = some c := (commandOf_decode_of_valid hv).trans hl
      obtain ⟨-, hhi, -⟩ := (wellFormed_iff s).1 hw
      obtain ⟨hlight, hevents⟩ := operate_eq_specExec hc (s := takeInput s) hhi
      rw [diagnosticOf_of_commandOf hc, specStep_of_command hv hl, emit_events, hevents]
      exact congrArg (·, _) hlight

/-- Settles O38: an idle step and a step on a frame each against the spec's function. -/
theorem stepRefinesTheSpecFunction : Obligations.StepRefinesTheSpecFunction := by
  intro s inp rest hw hin
  have hstep := step_of_wellFormed hw
  have hp := pendingInput_of_cons hin
  have hinputs : (nextState s).inputs = rest := by rw [nextState_inputs, hin, List.tail_cons]
  cases inp with
  | none =>
    refine ⟨_, hstep, ?_, nextState_params s, hinputs, ?_⟩
    · rw [nextState_of_idle hp]
      rfl
    · simp [nextState_of_idle hp]
  | some f =>
    obtain ⟨_, -, htrace, -⟩ := step_on_frame_events hp hstep
    exact ⟨_, hstep, nextState_eq_specStep hw hp, nextState_params s, hinputs, htrace⟩

/-! ### Runs of executed commands -/

theorem withInputs_of_inputs {s : State} {ins : List Input} (h : s.inputs = ins) : s.withInputs ins = s := by
  rw [← h]
  rfl

/-- A run from a well-formed state is its first step and the run of the rest. -/
theorem runInputs_cons {s : State} (hw : s.wellFormed = true) (i : Input) (ins : List Input) :
    runInputs (i :: ins) s = runInputs ins (nextState (s.withInputs (i :: ins))) := by
  have hstep : step (s.withInputs (i :: ins)) = .next (nextState (s.withInputs (i :: ins))) := step_of_wellFormed hw
  have hrest : (nextState (s.withInputs (i :: ins))).withInputs ins = nextState (s.withInputs (i :: ins)) :=
    withInputs_of_inputs (nextState_inputs _)
  rw [runInputs, runInputs, hrest]
  exact run_succ_of_step ins.length hstep

/-- Without the address check a step on a literal runs its row's instruction (R79). -/
theorem nextState_of_literal {s : State} {row : Frame × Instr} (hc : s.params.addrCheck = false)
    (hr : row ∈ literalTable) (hp : pendingInput s = .frame row.1) :
    nextState s = emit (diagnosticOf row.2) (operate row.2 (takeInput s)) := by
  have hv : valid s.params row.1 = true := by rw [valid_literal _ hr, hc, Bool.not_false]
  rw [nextState_of_frame hp, decode_of_valid_row hv hr]

/-- The registers an operation leaves do not depend on the inputs and the events. -/
theorem operate_takeInput_withInputs_light (i : Instr) (s : State) (ins : List Input) :
    (operate i (takeInput (s.withInputs ins))).light = (operate i s).light := by
  cases i <;> rfl

/-- The first step of a run whose next input is a literal, without the address check. -/
theorem runInputs_literal_cons {s : State} (hw : s.wellFormed = true) (hc : s.params.addrCheck = false)
    {row : Frame × Instr} (hr : row ∈ literalTable) (ins : List Input) :
    ∃ s', runInputs (.frame row.1 :: ins) s = runInputs ins s' ∧ s'.wellFormed = true ∧
      s'.params.addrCheck = false ∧ s'.light = (operate row.2 s).light := by
  refine ⟨_, runInputs_cons hw _ ins, step_wellFormed (step_of_wellFormed hw), ?_, ?_⟩
  · rw [nextState_params]
    exact hc
  · rw [nextState_of_literal (s := s.withInputs (.frame row.1 :: ins)) hc hr rfl]
    exact operate_takeInput_withInputs_light row.2 s _

/-- A repeated command writes to STEP the iterate of what it writes once. -/
theorem runInputs_replicate {row : Frame × Instr} (hr : row ∈ literalTable) {next : BitVec 7 → BitVec 7}
    (hnext : ∀ s, (operate row.2 s).stepReg = next s.stepReg) (k : Nat) {s : State} (hw : s.wellFormed = true)
    (hc : s.params.addrCheck = false) :
    ∃ t, runInputs (List.replicate k (.frame row.1)) s = .next t ∧ t.stepReg = next^[k] s.stepReg := by
  induction k generalizing s with
  | zero => exact ⟨_, rfl, rfl⟩
  | succ k ih =>
    obtain ⟨s', hrun, hw', hc', hlight⟩ := runInputs_literal_cons hw hc hr (List.replicate k (.frame row.1))
    obtain ⟨t, ht, hstep⟩ := ih hw' hc'
    have hs' : s'.stepReg = next s.stepReg := (congrArg Light.step hlight).trans (hnext s)
    exact ⟨t, hrun.trans ht, by rw [hstep, hs', Function.iterate_succ_apply]⟩

theorem iterate_adjustedStep_up_toNat {st : BitVec 7} (h : st.toNat ≤ 100) (k : Nat) :
    ((adjustedStep · 1)^[k] st).toNat = min (st.toNat + k) 100 := by
  induction k with
  | zero => exact (Nat.min_eq_left h).symm
  | succ k ih =>
    rw [Function.iterate_succ_apply', adjustedStep_up_toNat, ih]
    omega

theorem iterate_adjustedStep_down_toNat {st : BitVec 7} (hlo : 1 ≤ st.toNat) (hhi : st.toNat ≤ 100) (k : Nat) :
    ((adjustedStep · (-1))^[k] st).toNat = max (st.toNat - k) 1 := by
  induction k with
  | zero => exact (Nat.max_eq_left hlo).symm
  | succ k ih =>
    rw [Function.iterate_succ_apply', adjustedStep_down_toNat, ih]
    omega

/-- Settles O53: a run of k commands iterates the adjustment, and the iterates have a closed form. -/
theorem repeatedAdjustmentsConvergeAndStay : Obligations.RepeatedAdjustmentsConvergeAndStay := by
  intro s k hw hc
  obtain ⟨hlo, hhi, -⟩ := (wellFormed_iff s).1 hw
  have hup : (0xFF00EF00#32, Instr.brUp) ∈ literalTable := by decide
  have hdown : (0xFE01EF00#32, Instr.brDown) ∈ literalTable := by decide
  constructor
  · obtain ⟨t, ht, hst⟩ := runInputs_replicate hup (next := (adjustedStep · 1)) (fun _ => rfl) k hw hc
    have hval := congrArg BitVec.toNat hst
    rw [iterate_adjustedStep_up_toNat hhi] at hval
    exact ⟨t, ht, hval, fun hk => BitVec.eq_of_toNat_eq (by rw [hval]; exact Nat.min_eq_right (by omega))⟩
  · obtain ⟨t, ht, hst⟩ := runInputs_replicate hdown (next := (adjustedStep · (-1))) (fun _ => rfl) k hw hc
    have hval := congrArg BitVec.toNat hst
    rw [iterate_adjustedStep_down_toNat hlo hhi] at hval
    exact ⟨t, ht, hval, fun hk => BitVec.eq_of_toNat_eq (by rw [hval]; exact Nat.max_eq_right (by omega))⟩

/-- TURNON and TURNOFF by the value they give IS_ON. -/
def switchRow (on : Bool) : Frame × Instr :=
  if on then (0xFC03EF00#32, .turnOn) else (0xFD02EF00#32, .turnOff)

theorem switchRow_mem (on : Bool) : switchRow on ∈ literalTable := by
  cases on <;> decide

theorem switchInput_eq (on : Bool) : switchInput on = .frame (switchRow on).1 := by
  cases on <;> rfl

theorem operate_switchRow_light (on : Bool) (s : State) :
    (operate (switchRow on).2 s).light = ⟨on, s.stepReg, s.level⟩ := by
  cases on <;> rfl

/-- Settles O54: each command of the sequence writes IS_ON alone. -/
theorem switchSequencesKeepStepAndLevel : Obligations.SwitchSequencesKeepStepAndLevel := by
  intro s ons hw hc
  induction ons generalizing s with
  | nil => exact ⟨_, rfl, rfl, rfl, rfl⟩
  | cons on ons ih =>
    obtain ⟨s', hrun, hw', hc', hlight⟩ := runInputs_literal_cons hw hc (switchRow_mem on) (ons.map switchInput)
    rw [operate_switchRow_light] at hlight
    obtain ⟨hon, hstep, hlevel⟩ := Light.mk.inj hlight
    obtain ⟨t, ht, hst, hlv, hlast⟩ := ih s' hw' hc'
    rw [List.map_cons, switchInput_eq, hrun]
    exact ⟨t, ht, hst.trans hstep, hlv.trans hlevel, by rw [hlast, hon, List.getLastD_cons]⟩

end Sys2Proof.Machine
end

section
/-! PROOFS. Refused arguments, the frames that execute no command, and the observation of a run: the statements of
60_exceptions.md. -/

namespace Sys2Proof.Machine

theorem setPercent_out_of_contract {p : BitVec 7} (h : p ∉ percentSet) (s : State) :
    setPercent p s = .refused .percentOutOfContract := by
  rw [setPercent_eq, if_neg h]

/-- Settles O21: each operation tests its contract, and every instruction has a next state as its meaning. -/
theorem operationsRefuseArgumentsOutsideTheirContract :
    Obligations.OperationsRefuseArgumentsOutsideTheirContract :=
  ⟨fun s _ hp => setPercent_out_of_contract hp s,
    fun s _ hup hdown => adjustStep_out_of_contract hup hdown s,
    fun i s => ⟨_, exec_eq i s⟩⟩

/-! ### Frames that execute no command (R202, R203) -/

/-- When the decoded instruction runs no operation, the step takes its input and reports its diagnostic event. -/
theorem nextState_of_no_operation {s : State} {f : Frame} {rest : List Input} {i : Instr}
    (hin : s.inputs = .frame f :: rest) (hdec : decode s.params f = i) (hop : ∀ u, operate i u = u) :
    nextState s = { s with
      inputs := rest, events := [diagnosticOf i], trace := s.trace ++ [diagnosticOf i] } := by
  rw [nextState_of_frame (pendingInput_of_cons hin), hdec, hop, takeInput_of_cons hin]
  rfl

/-- Settles O51: both discarded classes run no operation, and the ports read the one event left. -/
theorem discardedFramesLeaveTheLightUnchanged : Obligations.DiscardedFramesLeaveTheLightUnchanged := by
  intro s f rest hw hin
  have hstep := step_of_wellFormed hw
  refine ⟨fun hv => ?_, fun hv hl => ?_⟩
  · rw [nextState_of_no_operation hin (decode_of_not_valid hv) fun _ => rfl] at hstep
    obtain ⟨-, hports, -⟩ := validatorPortsFollowTheResult
    obtain ⟨-, -, haddr, hdata⟩ := hports s.params f hv
    exact ⟨_, hstep, rfl, rfl, rfl, rfl, haddr, hdata⟩
  · rw [nextState_of_no_operation hin (decode_of_valid_of_specLookup_none hv hl) fun _ => rfl] at hstep
    exact ⟨_, hstep, rfl, rfl, rfl, rfl⟩

/-! ### The observation of a run (R216) -/

theorem resetWith_wellFormed (P : Params) : (State.resetWith P).wellFormed = true :=
  applyReset_wellFormed (State.resetWith P)

/-- From every well-formed state, a run without resets observes what folding the spec's function observes from its
registers and its trace. -/
theorem runInputs_eq_specRun (ins : List (Option Frame)) {s : State} (hw : s.wellFormed = true) :
    ∃ t, runInputs (ins.map inputOf) s = .next t ∧
      (t.light, t.trace) = specRun s.params ins (s.light, s.trace) := by
  induction ins generalizing s with
  | nil => exact ⟨_, rfl, rfl⟩
  | cons inp ins ih =>
    obtain ⟨s', hstep, hobs, hparams, -, htrace⟩ :=
      stepRefinesTheSpecFunction (s.withInputs (inputOf inp :: ins.map inputOf)) inp _ hw rfl
    obtain ⟨-, hnext⟩ := step_eq_next_iff.1 hstep
    obtain ⟨t, hrun, ht⟩ := ih (step_wellFormed hstep)
    obtain ⟨hlight, hevents⟩ := Prod.mk.inj hobs
    refine ⟨t, ?_, ?_⟩
    · rw [List.map_cons, runInputs_cons hw, hnext, hrun]
    · rw [ht, hparams, htrace, hlight, hevents]
      rfl

/-- Settles O39: the run of the spec's function from the registers that `Reset(P)` gives and the empty trace. -/
theorem runObservationIsThatOfTheSpec : Obligations.RunObservationIsThatOfTheSpec :=
  fun P ins => runInputs_eq_specRun ins (resetWith_wellFormed P)

end Sys2Proof.Machine
end

section
/-! PROOFS. The registers after reset, and runs with and without their idle inputs: the statements of
70_reset_and_hazards.md. -/

namespace Sys2Proof.Machine

/-! ### The registers after reset (R230) -/

theorem resetWith_level_truncSat {P : Params} (h : P.levelFn = .truncSat) :
    (State.resetWith P).level = 6553 :=
  (congrArg (levelOf · Config.resetStep) h).trans (by decide)

theorem resetWith_level_nearestSat {P : Params} (h : P.levelFn = .nearestSat) :
    (State.resetWith P).level = 6554 :=
  (congrArg (levelOf · Config.resetStep) h).trans (by decide)

/-- Settles O32: the clause of `State.reset` is that of `State.resetWith` at the default parameters. -/
theorem resetSetsEveryRegister : Obligations.ResetSetsEveryRegister :=
  ⟨fun _ => ⟨rfl, rfl, resetWith_level_truncSat, resetWith_level_nearestSat⟩,
    rfl, rfl, resetWith_level_truncSat (P := Params.default) rfl⟩

/-! ### One input of a run, whatever inputs follow it -/

theorem operate_withInputs (i : Instr) (s : State) (ins : List Input) :
    operate i (s.withInputs ins) = (operate i s).withInputs ins := by
  cases i <;> rfl

/-- The state after a step on the input `i`, with no input left. -/
def afterInput (i : Input) (s : State) : State := nextState (s.withInputs [i])

/-- A step carries the inputs behind the one it takes along, unread. -/
theorem nextState_withInputs_cons (i : Input) (rest : List Input) (s : State) :
    nextState (s.withInputs (i :: rest)) = (afterInput i s).withInputs rest := by
  cases i with
  | reset => rfl
  | idle => rfl
  | frame f =>
    have hop := operate_withInputs (decode s.params f) (takeInput (s.withInputs [.frame f])) rest
    exact congrArg (emit (diagnosticOf (decode s.params f))) hop

theorem runInputs_cons_afterInput {s : State} (hw : s.wellFormed = true) (i : Input) (ins : List Input) :
    runInputs (i :: ins) s = runInputs ins (afterInput i s) := by
  rw [runInputs_cons hw, nextState_withInputs_cons]
  rfl

theorem afterInput_wellFormed {s : State} (hw : s.wellFormed = true) (i : Input) :
    (afterInput i s).wellFormed = true :=
  step_wellFormed (step_of_wellFormed (s := s.withInputs [i]) hw)

/-! ### The events a state holds from its last step -/

/-- A state with another list of the last step's events. -/
def State.withEvents (es : List Event) (s : State) : State := { s with events := es }

/-- A step begins its own event list (R41). -/
theorem afterInput_withEvents (i : Input) (es : List Event) (s : State) :
    afterInput i (s.withEvents es) = afterInput i s := rfl

/-- An idle input only clears the last step's events (R158). -/
theorem runInputs_idle_cons {s : State} (hw : s.wellFormed = true) (ins : List Input) :
    runInputs (.idle :: ins) s = runInputs ins (s.withEvents []) :=
  runInputs_cons_afterInput hw .idle ins

/-- The events of the state a run starts from reach at most the events of the state it ends in. -/
theorem runInputs_withEvents {s t : State} (hw : s.wellFormed = true) {ins : List Input}
    (h : runInputs ins s = .next t) (es : List Event) :
    ∃ es', runInputs ins (s.withEvents es) = .next (t.withEvents es') := by
  cases ins with
  | nil =>
    obtain rfl := Host.Outcome.next.inj h
    exact ⟨es, rfl⟩
  | cons i ins =>
    rw [runInputs_cons_afterInput hw] at h
    exact ⟨t.events, by rw [runInputs_cons_afterInput (s := s.withEvents es) hw, afterInput_withEvents, h]; rfl⟩

/-! ### Runs without their idle inputs (R234) -/

/-- Without its idle inputs a run ends in the same state, but for the events of the last step. -/
theorem runInputs_filter_idle (ins : List Input) {s : State} (hw : s.wellFormed = true) :
    ∃ t es, runInputs ins s = .next t ∧ runInputs (ins.filter (· ≠ .idle)) s = .next (t.withEvents es) := by
  induction ins generalizing s with
  | nil => exact ⟨_, s.events, rfl, rfl⟩
  | cons i ins ih =>
    by_cases hi : i = .idle
    · subst hi
      obtain ⟨t, es, ht, hu⟩ := ih (s := s.withEvents []) hw
      obtain ⟨es', hu'⟩ := runInputs_withEvents (s := s.withEvents []) hw hu s.events
      rw [runInputs_idle_cons hw, List.filter_cons_of_neg (by simp)]
      exact ⟨t, es', ht, hu'⟩
    · rw [List.filter_cons_of_pos (by simp [hi]), runInputs_cons_afterInput hw, runInputs_cons_afterInput hw]
      exact ih (afterInput_wellFormed hw i)

/-- Settles O42: the two runs end apart at most in the events of the last step. -/
theorem idleStepsMakeNoDifference : Obligations.IdleStepsMakeNoDifference := by
  intro ins s hw
  obtain ⟨t, es, ht, hu⟩ := runInputs_filter_idle ins hw
  exact ⟨t, t.withEvents es, ht, hu, rfl, rfl, rfl⟩

end Sys2Proof.Machine
end

section
/-! PROOFS. Encoding against decoding, the byte list, the table words and the assembler lines: the statements of
20_memory.md §2 and §3 and of 30_encoding.md. -/

namespace Sys2Proof.Machine

/-! ### An instruction is INVALID, UNKNOWN or a row of the table -/

theorem instr_cases (i : Instr) :
    (∃ f, i = .invalid f) ∨ (∃ f, i = .unknown f) ∨ (encode i, i) ∈ literalTable := by
  cases i
  case invalid f => exact .inl ⟨f, rfl⟩
  case unknown f => exact .inr (.inl ⟨f, rfl⟩)
  all_goals exact .inr (.inr (by decide))

/-- A row's instruction is well-formed exactly when its literal is valid (R79). -/
theorem wellFormed_of_row (P : Params) {row : Frame × Instr} (h : row ∈ literalTable) :
    row.2.wellFormed P = valid P row.1 := by
  rw [valid_literal P h]
  revert row
  simp [literalTable, Instr.wellFormed]

@[simp] theorem wellFormed_invalid (P : Params) (f : Frame) :
    (Instr.invalid f).wellFormed P = true ↔ valid P f = false := by
  simp [Instr.wellFormed]

@[simp] theorem wellFormed_unknown (P : Params) (f : Frame) :
    (Instr.unknown f).wellFormed P = true ↔ valid P f = true ∧ isLiteral f = false := by
  simp [Instr.wellFormed]

/-- Settles O1: well-formedness of an instruction is the condition under which decoding its frame takes its branch. -/
theorem decodeOfEncodeIsTheInstruction : Obligations.DecodeOfEncodeIsTheInstruction := by
  intro P i hw
  obtain ⟨f, rfl⟩ | ⟨f, rfl⟩ | hrow := instr_cases i
  · exact decode_of_not_valid ((wellFormed_invalid P f).1 hw)
  · obtain ⟨hv, hl⟩ := (wellFormed_unknown P f).1 hw
    exact decode_of_valid_of_not_literal hv hl
  · have hv : valid P (encode i) = true := (wellFormed_of_row P hrow).symm.trans hw
    exact decode_of_valid_row (row := (encode i, i)) hv hrow

theorem decode_wellFormed (P : Params) (f : Frame) : (decode P f).wellFormed P = true := by
  cases hv : valid P f with
  | false => rw [decode_of_not_valid hv, wellFormed_invalid, hv]
  | true =>
    cases hl : isLiteral f with
    | false =>
      rw [decode_of_valid_of_not_literal hv hl, wellFormed_unknown]
      exact ⟨hv, hl⟩
    | true =>
      obtain ⟨row, hr, rfl⟩ := (isLiteral_iff f).1 hl
      rw [decode_of_valid_row hv hr, wellFormed_of_row P hr, hv]

/-- Settles O2: the class of a frame is well-formed by the tests that chose it, and encoding inverts decoding. -/
theorem everyFrameDecodesToItsOwnInstruction : Obligations.EveryFrameDecodesToItsOwnInstruction :=
  fun P f => ⟨decode_wellFormed P f, encode_decode P f⟩

/-- Settles O5: six rows of the table, a frame that breaks the data relation, and the NEC frame of 0x00 and 0x03. -/
theorem wordsOfTheTableDecode : Obligations.WordsOfTheTableDecode := by
  refine ⟨fun P hc => ?_, fun P => ⟨?_, ?_⟩⟩
  · obtain ⟨-, -, hliteral⟩ := literalsAreValidOnlyWithoutAddressCheck
    have hdecode (row) (hr : row ∈ literalTable) : decode P row.1 = row.2 := (hliteral P hc row hr).2
    exact ⟨hdecode (_, .turnOn) (by decide), hdecode (_, .turnOff) (by decide), hdecode (_, .brUp) (by decide),
      hdecode (_, .brDown) (by decide), hdecode (_, .setPct100) (by decide), hdecode (_, .setPct50) (by decide)⟩
  · exact decode_of_not_valid (not_valid_of_not_dataOk (by decide) P)
  · exact decode_of_valid_of_not_literal (valid_necFrame P 0x00#8 0x03#8) (by decide)

/-! ### A byte list as a frame -/

theorem decodeBytes_of_short (P : Params) : ∀ bs : List Byte, bs.length < 4 →
    decodeBytes P bs = .error (.partialFrame bs.length)
  | [], _ => rfl
  | [_], _ => rfl
  | [_, _], _ => rfl
  | [_, _, _], _ => rfl
  | _ :: _ :: _ :: _ :: rest, h => absurd h (by simp)

/-- Settles O9: the four bytes are the fields of the frame whose number is their weighted sum. -/
theorem bytesAssembleLittleEndianAndWhole : Obligations.BytesAssembleLittleEndianAndWhole := by
  refine ⟨fun P b0 b1 b2 b3 rest f hf => ?_, decodeBytes_of_short⟩
  obtain rfl : f = frameOf b3 b2 b1 b0 := BitVec.eq_of_toNat_eq (hf.trans (frameOf_toNat b3 b2 b1 b0).symm)
  rfl

/-! ### The SETPCT line (R83) -/

/-- For each of the ten percents the assembler and the command table name the same literal. -/
theorem percentLiteral_of_mem {p : Nat} (h : p ∈ [10, 20, 30, 40, 50, 60, 70, 80, 90, 100]) :
    ∃ f, percentLiteral p = some f ∧ specLookup f = some (.setPercent (BitVec.ofNat 7 p)) := by
  rw [← Option.bind_eq_some_iff]
  revert p
  decide

theorem percentLiteral_of_not_mem {p : Nat} (h : p ∉ [10, 20, 30, 40, 50, 60, 70, 80, 90, 100]) :
    percentLiteral p = none := by
  unfold percentLiteral
  split
  case h_11 => rfl
  all_goals exact absurd (by decide) h

/-- Settles O10: a SETPCT line presents the literal of its percent, if there is one; every other line its own input. -/
theorem assemblerLinesPresentTheirInputs : Obligations.AssemblerLinesPresentTheirInputs := by
  refine ⟨rfl, rfl, rfl, rfl, fun p hp => ?_, fun p hp => ?_, fun _ => rfl, rfl⟩
  · obtain ⟨f, hf, hlookup⟩ := percentLiteral_of_mem hp
    exact ⟨f, by rw [assemble, hf], hlookup⟩
  · rw [assemble, percentLiteral_of_not_mem hp]

end Sys2Proof.Machine
end

section
/-! PROOFS. What one step does with its input, and runs in sequence: the statements of 10_state.md §2, 20_memory.md
§3 and §4, 42_brightness_commands.md §3 and 70_reset_and_hazards.md §1. -/

namespace Sys2Proof.Machine

/-! ### LEVEL as a function of STEP -/

/-- Two neighbouring values of STEP are at least 654 apart in LEVEL, and only 100 reaches saturation. -/
theorem levelOf_strictMono (fn : LevelFn) {s t : Nat} (hlt : s < t) (ht : t ≤ 100) :
    (levelOf fn (BitVec.ofNat 7 s)).toNat < (levelOf fn (BitVec.ofNat 7 t)).toNat := by
  have hs : s ≤ 100 := by omega
  cases fn with
  | truncSat =>
    rw [levelOf_truncSat_toNat hs, levelOf_truncSat_toNat ht]
    omega
  | nearestSat =>
    rw [levelOf_nearestSat_toNat hs, levelOf_nearestSat_toNat ht]
    omega

/-- Settles O17: a STEP is the 7-bit word of its value, and on values LEVEL_FN is strictly increasing. -/
theorem levelDeterminesStep : Obligations.LevelDeterminesStep := by
  intro fn a b _ hlt hb
  simpa using levelOf_strictMono fn hlt hb

/-- Settles O35: a step ends well-formed, and a state with another LEVEL is not. -/
theorem levelIsConsistentWithStep : Obligations.LevelIsConsistentWithStep := by
  have hlevel (s : State) (hw : s.wellFormed = true) : s.level = levelOf s.params.levelFn s.stepReg := by
    obtain ⟨-, -, h⟩ := (wellFormed_iff s).1 hw
    exact h
  refine ⟨hlevel, fun s t h => hlevel t (step_wellFormed h), fun s hne => ?_⟩
  exact step_of_ill_formed (Bool.eq_false_iff.2 fun hw => hne (hlevel s hw))

/-! ### The four kinds of next input -/

/-- Settles O29: the operation and the diagnostic event of the step on a frame are exec of the decoded instruction. -/
theorem stepRunsTheDecodedInstruction : Obligations.StepRunsTheDecodedInstruction := by
  intro s f rest hw hin
  rw [step_of_wellFormed hw, nextState_of_frame (pendingInput_of_cons hin), ← exec_eq, takeInput_of_cons hin]

theorem pendingInput_of_nil {s : State} (h : s.inputs = []) : pendingInput s = .idle := by
  rw [pendingInput, h, List.headD_nil]

theorem takeInput_of_nil {s : State} (h : s.inputs = []) : takeInput s = { s with events := [] } := by
  rw [takeInput, h, List.tail_nil, ← h]

/-- Settles O31: without inputs the step is idle, and there is no input to take. -/
theorem exhaustedInputsPresentNothing : Obligations.ExhaustedInputsPresentNothing := by
  intro s hw hin
  rw [step_of_wellFormed hw, nextState_of_idle (pendingInput_of_nil hin), takeInput_of_nil hin]

/-- Settles O33: a reset is taken from every state, and what it leaves is that of `Reset(P)` with the later inputs. -/
theorem resetStepFromAnyState : Obligations.ResetStepFromAnyState := by
  intro s rest hin
  have hp := pendingInput_of_cons hin
  have hnext : nextState s = (State.resetWith s.params).withInputs rest := by
    rw [nextState_of_reset hp, takeInput_of_cons hin]
    rfl
  exact ⟨_, step_eq_next_iff.2 ⟨.inl hp, hnext⟩, rfl, rfl, rfl, rfl, rfl, rfl, rfl, rfl, rfl⟩

/-- Settles O37: STEP 10 is legal, and reset computes LEVEL from it. -/
theorem resetIsWellFormed : Obligations.ResetIsWellFormed :=
  ⟨resetWith_wellFormed Params.default, resetWith_wellFormed⟩

/-- Settles O43: the state after a step by its inputs and parameters; its trace is that of the event list's law. -/
theorem stepConsumesOneInputAndKeepsParameters : Obligations.StepConsumesOneInputAndKeepsParameters := by
  intro s t h
  obtain ⟨-, rfl⟩ := step_eq_next_iff.1 h
  refine ⟨nextState_inputs s, nextState_params s, fun hr => ?_⟩
  obtain ⟨htrace, -⟩ := eventListEndsInOneDiagnostic s _ h hr
  exact htrace

/-! ### A table word placed by the host (log 4) -/

/-- Of the parameters decoding reads `P_ADDR_CHECK` alone. -/
theorem decode_congr_addrCheck {P Q : Params} (h : P.addrCheck = Q.addrCheck) (f : Frame) :
    decode P f = decode Q f := by
  have hv : valid P f = valid Q f := by rw [valid, valid, h]
  rw [decode, decode, hv]

/-- Settles O44: the placed frame is the next input, and it is decoded under the `P_ADDR_CHECK` the word was read
with. -/
theorem fetchWordRunsTheTableInstruction : Obligations.FetchWordRunsTheTableInstruction := by
  intro s nbits w hw hbits
  refine ⟨_, if_pos hbits, ?_⟩
  have hstep := stepRunsTheDecodedInstruction (s.withFetchWord nbits w) (tableFrame nbits w) s.inputs hw rfl
  rw [hstep, decode_congr_addrCheck rfl]
  rfl

/-! ### Runs in sequence -/

/-- Settles O41: by induction on the first inputs, each of which a well-formed state takes alike in both runs. -/
theorem runsComposeInOrder : Obligations.RunsComposeInOrder := by
  intro a b s hw
  induction a generalizing s with
  | nil => exact ⟨_, rfl, rfl⟩
  | cons i a ih =>
    rw [List.cons_append, runInputs_cons_afterInput hw, runInputs_cons_afterInput hw]
    exact ih _ (afterInput_wellFormed hw i)

end Sys2Proof.Machine
end
